-- ==== Sys2Proof/Word.lean ====
section
/-! DEFINITION. The word types of CATC (00_scope.md R10, R11; 30_encoding.md R70, R74): bytes, 32-bit words, the
40-bit host command word, and the two byte arrays every rule uses, with byte 0 the first on the wire (20_memory.md R52). -/
namespace Sys2Proof

/-- One byte, unsigned (R10). -/
abbrev Byte := BitVec 8

/-- A status word, an ARG operand or a timer value: 32 bits, unsigned. -/
abbrev Word32 := BitVec 32

/-- A host command word (R70): HOP in [7:0], ARG in [39:8]. -/
abbrev HostWord := BitVec 40

/-- A CAT packet, a reply, or a buffer of five bytes (R11): `b0` is `p[0]`, the first byte on the wire. -/
structure Packet where
  b0 : Byte
  b1 : Byte
  b2 : Byte
  b3 : Byte
  b4 : Byte
deriving DecidableEq, Repr

/-- The four frequency bytes of a packet (R53): `f0` holds the most significant group. -/
structure FreqBytes where
  f0 : Byte
  f1 : Byte
  f2 : Byte
  f3 : Byte
deriving DecidableEq, Repr

/-- Five zero bytes. -/
def Packet.zero : Packet := ⟨0, 0, 0, 0, 0⟩

/-- Bytes 0..3 of a packet (R74: the payload). -/
def Packet.payload (p : Packet) : FreqBytes := ⟨p.b0, p.b1, p.b2, p.b3⟩

end Sys2Proof
end

