-- ==== Sys2Proof/Config.lean ====
section
/-! DEFINITION. What an implementation of CATC fixes (00_scope.md R8): the constants of the protocol and the two open
parameters, the reply timeout in cycles and the mode wire codes. They are plain data, held beside the state and written by
no step (log entry 1). -/
namespace Sys2Proof

/-- The ten modes, in the source's order (R9). -/
inductive Mode where
  | lsb | usb | cw | cwr | am | wfm | fm | fmn | dig | pkt
deriving DecidableEq, Repr

/-- `MODE_CODE[0..9]` (R8, R85): the wire code of each mode. -/
structure ModeTable where
  lsb : Byte
  usb : Byte
  cw : Byte
  cwr : Byte
  am : Byte
  wfm : Byte
  fm : Byte
  fmn : Byte
  dig : Byte
  pkt : Byte
deriving DecidableEq, Repr

/-- The parameters of R8 that vary between implementations. `timeoutCycles` is `TIMEOUT_CYCLES`. -/
structure Config where
  timeoutCycles : Word32
  modeCode : ModeTable
deriving DecidableEq, Repr

/-- `PKT_LEN` of R8. -/
def pktLen : Nat := 5

/-- `FREQ_DIGITS` of R8. -/
def freqDigits : Nat := 8

/-- `FREQ_UNIT_HZ` of R8: one unit of the frequency operand. -/
def freqUnitHz : Nat := 10

/-- `TIMEOUT_S` of R8. -/
def timeoutS : Nat := 3

/-- The default `MODE_CODE` that R8 gives (from general knowledge, 93_implementation_defined.md I1; log entry 2). -/
def defaultModeCode : ModeTable :=
  ⟨0x00, 0x01, 0x02, 0x03, 0x04, 0x06, 0x08, 0x88, 0x0A, 0x0C⟩

/-- The parameters that `State.reset` carries. DESIGN CHOICE (log entry 2): F_CLK_HZ = 1, so TIMEOUT_CYCLES = 3;
R8 leaves the clock OPEN. No statement rests on it. -/
def Config.atReset : Config := ⟨3, defaultModeCode⟩

end Sys2Proof
end

