-- ==== Sys2Proof/Machine/FreqCodec.lean ====
section
/-! DEFINITION. The Frequency Codec (41_freq_codec.md): Bcd, EncFreq, DecFreq and NonBcd. -/
namespace Sys2Proof.Machine

/-- `Bcd(g)` (R131): tens digit in the high nibble, units digit in the low nibble. -/
def bcd (g : Nat) : Byte := BitVec.ofNat 4 (g / 10) ++ BitVec.ofNat 4 (g % 10)

/-- Group `k` of `m` (R132): two decimal digits, `k = 0` the least significant. -/
def freqGroup (m k : Nat) : Nat := (m / 100 ^ k) % 100

/-- `EncFreq(n)` (R132), with digits above the eighth dropped. -/
def encFreq (n : Word32) : FreqBytes :=
  let m := n.toNat % 10 ^ freqDigits
  ⟨bcd (freqGroup m 3), bcd (freqGroup m 2), bcd (freqGroup m 1), bcd (freqGroup m 0)⟩

/-- The high nibble `b[7:4]`. -/
def highNibble (b : Byte) : Nat := (b.extractLsb' 4 4).toNat

/-- The low nibble `b[3:0]`. -/
def lowNibble (b : Byte) : Nat := (b.extractLsb' 0 4).toNat

/-- The weight of one byte in the sum of R134: ten times the high nibble, plus the low one. -/
def byteWeight (b : Byte) : Nat := 10 * highNibble b + lowNibble b

/-- One byte holds a nibble above 9 (R135). -/
def byteNonBcd (b : Byte) : Bool := decide (9 < highNibble b) || decide (9 < lowNibble b)

/-- `NonBcd(b[0..3])` (R135). -/
def nonBcd (f : FreqBytes) : Bool :=
  byteNonBcd f.f0 || byteNonBcd f.f1 || byteNonBcd f.f2 || byteNonBcd f.f3

/-- The value `n` of `DecFreq(b[0..3])` (R134): a nibble above 9 enters the sum with its value 10..15 (log entry 13). -/
def decFreqValue (f : FreqBytes) : Nat :=
  (((0 * 100 + byteWeight f.f0) * 100 + byteWeight f.f1) * 100 + byteWeight f.f2) * 100 + byteWeight f.f3

/-- `DecFreq(b[0..3])` (R134): the value and the NONBCD flag. -/
def decFreq (f : FreqBytes) : Nat × Bool := (decFreqValue f, nonBcd f)

end Sys2Proof.Machine
end

