-- ==== Sys2Proof/Syntax.lean ====
section
/-! DEFINITION. The instructions: one constructor per row of spec/opcode_table.json, in the table's order. Host
commands carry ARG also where it is ignored (30_encoding.md R73), and a reserved host opcode carries the bits of HOP
that its row leaves free, so that decoding a host word drops no bit. -/
namespace Sys2Proof

/-- The instructions of CATC: the host command map (30_encoding.md R80, R81), then the nine CAT packets (R76). -/
inductive Instr where
  /-- R200. -/
  | connect (speed : Word32)
  /-- R201. -/
  | disconnect (ignored : Word32)
  /-- R202. -/
  | lockOn (ignored : Word32)
  /-- R203. -/
  | lockOff (ignored : Word32)
  /-- R204. -/
  | pttOn (ignored : Word32)
  /-- R205. -/
  | pttOff (ignored : Word32)
  /-- R206: the operand is N, in units of 10 Hz. -/
  | setFreq (n : Word32)
  /-- R207: the operand is the packed name (R84). -/
  | setMode (name : Word32)
  /-- R208. -/
  | getFreqMode (ignored : Word32)
  /-- R209. -/
  | getRxStatus (ignored : Word32)
  /-- R210. -/
  | getTxStatus (ignored : Word32)
  /-- R211, HOP = 0x00. -/
  | reserved00 (ignored : Word32)
  /-- R211, HOP = 0x0C..0x0F; `low` is HOP[1:0]. -/
  | reserved0C (low : BitVec 2) (ignored : Word32)
  /-- R211, HOP = 0x10..0x1F; `low` is HOP[3:0]. -/
  | reserved10 (low : BitVec 4) (ignored : Word32)
  /-- R211, HOP = 0x20..0x3F; `low` is HOP[4:0]. -/
  | reserved20 (low : BitVec 5) (ignored : Word32)
  /-- R211, HOP = 0x40..0x7F; `low` is HOP[5:0]. -/
  | reserved40 (low : BitVec 6) (ignored : Word32)
  /-- R211, HOP = 0x80..0xFF; `low` is HOP[6:0]. -/
  | reserved80 (low : BitVec 7) (ignored : Word32)
  /-- R111. -/
  | catLockOn
  /-- R112. -/
  | catLockOff
  /-- R113. -/
  | catPttOn
  /-- R114. -/
  | catPttOff
  /-- R116: the four BCD bytes, most significant group first. -/
  | catSetFrequency (f : FreqBytes)
  /-- R115: the mode wire code. -/
  | catSetMode (code : Byte)
  /-- R117. -/
  | catGetFreqMode
  /-- R118. -/
  | catGetRxStatus
  /-- R119. -/
  | catGetTxStatus
deriving DecidableEq, Repr

end Sys2Proof
end

