-- ==== Sys2Proof/WellFormed.lean ====
section
/-! DEFINITION. Which instructions are well formed. Every host command word is one (30_encoding.md R71: the decoder is
total). Of the CAT packets only SET_FREQUENCY has an operand the encoder cannot produce: a byte with a nibble above 9
(41_freq_codec.md R137). Any mode byte may be some table's code (00_scope.md R8). -/
namespace Sys2Proof

/-- Well-formedness of an instruction. -/
def Instr.wf : Instr → Bool
  | .catSetFrequency f => !Machine.nonBcd f
  | .connect _ | .disconnect _ | .lockOn _ | .lockOff _ | .pttOn _ | .pttOff _ | .setFreq _ | .setMode _
  | .getFreqMode _ | .getRxStatus _ | .getTxStatus _ | .reserved00 _ | .reserved0C _ _ | .reserved10 _ _
  | .reserved20 _ _ | .reserved40 _ _ | .reserved80 _ _ | .catLockOn | .catLockOff | .catPttOn | .catPttOff
  | .catSetMode _ | .catGetFreqMode | .catGetRxStatus | .catGetTxStatus => true

end Sys2Proof
end

