-- ==== Sys2Proof/Decode.lean ====
section
/-! DEFINITION. The two encodings of 30_encoding.md: the 40-bit host command word (R70 to R73, R80, R81), whose decoder is
total, and the 5-byte CAT packet (R74 to R76), whose decoder rejects by name; after them the encoder. -/
namespace Sys2Proof

/-- Why bytes are no CAT packet that CATC builds (log entry 14). -/
inductive DecodeError where
  /-- Fewer than five bytes (20_memory.md R58: every packet is exactly 5 bytes). -/
  | shortPacket (got : Nat)
  /-- `p[4]` is none of the nine wire opcodes (R75). -/
  | unknownOpcode (op : Byte)
  /-- A byte that the packet's layout fixes at zero is not (R76). -/
  | nonzeroPadding (op : Byte)
  /-- A SET_FREQUENCY byte has a nibble above 9 (R131). -/
  | nonBcdFrequency
deriving DecidableEq, Repr

/-- What is stored or sent for one instruction: a host command word or a CAT packet. -/
inductive Code where
  | host (w : HostWord)
  | packet (p : Packet)
deriving DecidableEq, Repr

/-- HOP of a host command word (R70). -/
def hopOf (w : HostWord) : Byte := w.extractLsb' 0 8

/-- ARG of a host command word (R70). -/
def argOf (w : HostWord) : Word32 := w.extractLsb' 8 32

/-- The map of R80 and R81: HOP alone selects the command (R71). A reserved opcode goes to the row of the opcode table
whose mask and match it meets; the last row is the one that is left. -/
def decodeHop (hop : Byte) (arg : Word32) : Instr :=
  if hop = 0x00#8 then .reserved00 arg
  else if hop = 0x01#8 then .connect arg
  else if hop = 0x02#8 then .disconnect arg
  else if hop = 0x03#8 then .lockOn arg
  else if hop = 0x04#8 then .lockOff arg
  else if hop = 0x05#8 then .pttOn arg
  else if hop = 0x06#8 then .pttOff arg
  else if hop = 0x07#8 then .setFreq arg
  else if hop = 0x08#8 then .setMode arg
  else if hop = 0x09#8 then .getFreqMode arg
  else if hop = 0x0A#8 then .getRxStatus arg
  else if hop = 0x0B#8 then .getTxStatus arg
  else if hop.extractLsb' 2 6 = 0b000011#6 then .reserved0C (hop.extractLsb' 0 2) arg
  else if hop.extractLsb' 4 4 = 0b0001#4 then .reserved10 (hop.extractLsb' 0 4) arg
  else if hop.extractLsb' 5 3 = 0b001#3 then .reserved20 (hop.extractLsb' 0 5) arg
  else if hop.extractLsb' 6 2 = 0b01#2 then .reserved40 (hop.extractLsb' 0 6) arg
  else .reserved80 (hop.extractLsb' 0 7) arg

/-- The decoder of host command words (R71): total. -/
def decodeHost (w : HostWord) : Instr := decodeHop (hopOf w) (argOf w)

/-- A packet whose payload is all zeros stands for `i`. -/
def decodePlain (p : Packet) (i : Instr) : Except DecodeError Instr :=
  if p.payload = ⟨0, 0, 0, 0⟩ then .ok i else .error (.nonzeroPadding p.b4)

/-- The decoder of CAT packets (R75, R76): `p[4]` selects the packet. -/
def decodePacket (p : Packet) : Except DecodeError Instr :=
  if p.b4 = 0x00#8 then decodePlain p .catLockOn
  else if p.b4 = 0x80#8 then decodePlain p .catLockOff
  else if p.b4 = 0x08#8 then decodePlain p .catPttOn
  else if p.b4 = 0x88#8 then decodePlain p .catPttOff
  else if p.b4 = 0x01#8 then
    if Machine.nonBcd p.payload then .error .nonBcdFrequency else .ok (.catSetFrequency p.payload)
  else if p.b4 = 0x07#8 then
    if p.b1 = 0 ∧ p.b2 = 0 ∧ p.b3 = 0 then .ok (.catSetMode p.b0) else .error (.nonzeroPadding p.b4)
  else if p.b4 = 0x03#8 then decodePlain p .catGetFreqMode
  else if p.b4 = 0xE7#8 then decodePlain p .catGetRxStatus
  else if p.b4 = 0xF7#8 then decodePlain p .catGetTxStatus
  else .error (.unknownOpcode p.b4)

/-- The decoder of a wire byte stream: the first five bytes are one packet (R87), the rest is handed back. -/
def decodeBytes : List Byte → Except DecodeError (Instr × List Byte)
  | b0 :: b1 :: b2 :: b3 :: b4 :: rest =>
    match decodePacket ⟨b0, b1, b2, b3, b4⟩ with
    | .ok i => .ok (i, rest)
    | .error e => .error e
  | short => .error (.shortPacket short.length)

/-- Decoding of either encoding. -/
def decode : Code → Except DecodeError Instr
  | .host w => .ok (decodeHost w)
  | .packet p => decodePacket p

/-- The host command word `{ARG, HOP}` (R70, R88). -/
def hostWord (hop : Byte) (arg : Word32) : HostWord := arg ++ hop

/-- The encoder, from the tables of R80, R81 and R76. -/
def encode : Instr → Code
  | .connect arg => .host (hostWord 0x01 arg)
  | .disconnect arg => .host (hostWord 0x02 arg)
  | .lockOn arg => .host (hostWord 0x03 arg)
  | .lockOff arg => .host (hostWord 0x04 arg)
  | .pttOn arg => .host (hostWord 0x05 arg)
  | .pttOff arg => .host (hostWord 0x06 arg)
  | .setFreq arg => .host (hostWord 0x07 arg)
  | .setMode arg => .host (hostWord 0x08 arg)
  | .getFreqMode arg => .host (hostWord 0x09 arg)
  | .getRxStatus arg => .host (hostWord 0x0A arg)
  | .getTxStatus arg => .host (hostWord 0x0B arg)
  | .reserved00 arg => .host (hostWord 0x00 arg)
  | .reserved0C low arg => .host (hostWord (0b000011#6 ++ low) arg)
  | .reserved10 low arg => .host (hostWord (0b0001#4 ++ low) arg)
  | .reserved20 low arg => .host (hostWord (0b001#3 ++ low) arg)
  | .reserved40 low arg => .host (hostWord (0b01#2 ++ low) arg)
  | .reserved80 low arg => .host (hostWord (0b1#1 ++ low) arg)
  | .catLockOn => .packet ⟨0, 0, 0, 0, 0x00⟩
  | .catLockOff => .packet ⟨0, 0, 0, 0, 0x80⟩
  | .catPttOn => .packet ⟨0, 0, 0, 0, 0x08⟩
  | .catPttOff => .packet ⟨0, 0, 0, 0, 0x88⟩
  | .catSetFrequency f => .packet ⟨f.f0, f.f1, f.f2, f.f3, 0x01⟩
  | .catSetMode code => .packet ⟨code, 0, 0, 0, 0x07⟩
  | .catGetFreqMode => .packet ⟨0, 0, 0, 0, 0x03⟩
  | .catGetRxStatus => .packet ⟨0, 0, 0, 0, 0xE7⟩
  | .catGetTxStatus => .packet ⟨0, 0, 0, 0, 0xF7⟩

/-- The instruction the command port's decoder reads from a word numbered as spec/opcode_table.json numbers it: bits above
`nbits` are 0. It is the host command word's decoder; the table gives nine CAT rows the same numbers as host rows, and a
word on the command port is a host word (R71; log entry 8). -/
def decodeTableWord (nbits w : Nat) : Option Instr :=
  if nbits ≤ 40 then some (decodeHost (BitVec.ofNat 40 (w % 2 ^ nbits))) else none

end Sys2Proof
end

