-- ==== Sys2Proof/Machine/Operands.lean ====
section
/-! DEFINITION. The operand forms (30_encoding.md R72) and the constant tables behind them: mode names, indices and wire
codes (00_scope.md R9, R8), the two lookups (40_encoder.md R121, R122), and the check that a set of parameters is well
formed (R8). -/
namespace Sys2Proof.Machine

/-- The ten modes in index order (R9). -/
def modes : List Mode := [.lsb, .usb, .cw, .cwr, .am, .wfm, .fm, .fmn, .dig, .pkt]

/-- `NAME_WORD[i]` (R9): the name packed with its first character in [31:24], padded with 0x00 (R84). -/
def nameWord : Mode → Word32
  | .lsb => 0x4C534200
  | .usb => 0x55534200
  | .cw => 0x43570000
  | .cwr => 0x43575200
  | .am => 0x414D0000
  | .wfm => 0x57464D00
  | .fm => 0x464D0000
  | .fmn => 0x464D4E00
  | .dig => 0x44494700
  | .pkt => 0x504B5400

/-- `MODE_CODE[idx]` (R8, R85). -/
def modeCode (t : ModeTable) : Mode → Byte
  | .lsb => t.lsb
  | .usb => t.usb
  | .cw => t.cw
  | .cwr => t.cwr
  | .am => t.am
  | .wfm => t.wfm
  | .fm => t.fm
  | .fmn => t.fmn
  | .dig => t.dig
  | .pkt => t.pkt

/-- The index of a mode (R9), with 15 for the unknown mode, the source's "". -/
def modeIndex : Option Mode → BitVec 4
  | some .lsb => 0
  | some .usb => 1
  | some .cw => 2
  | some .cwr => 3
  | some .am => 4
  | some .wfm => 5
  | some .fm => 6
  | some .fmn => 7
  | some .dig => 8
  | some .pkt => 9
  | none => 15

/-- `ModeByName(w)` (R121): exact on all 32 bits; `none` is the spec's 15. -/
def modeByName (w : Word32) : Option Mode := modes.find? fun m => decide (w = nameWord m)

/-- `ModeByCode(c)` (R122); `none` is the spec's 15. -/
def modeByCode (t : ModeTable) (c : Byte) : Option Mode := modes.find? fun m => decide (c = modeCode t m)

/-- `MODE_CODE` is injective: no two entries are equal (R8). -/
def modeTableInjective (t : ModeTable) : Bool := decide (modes.map (modeCode t)).Nodup

/-- The parameters are well formed (R8): TIMEOUT_CYCLES in 1 .. 2^32-1 (log entry 3), MODE_CODE injective. -/
def configWf (c : Config) : Bool := decide (c.timeoutCycles ≠ 0) && modeTableInjective c.modeCode

/-- The parameters of a CATC built for a clock of `fClkHz` (R8: TIMEOUT_CYCLES = TIMEOUT_S * F_CLK_HZ), refused when that
product is outside 1 .. 2^32-1 or the table is not injective (93_implementation_defined.md I7, I8). -/
def configOfClock (fClkHz : Nat) (t : ModeTable) : Option Config :=
  if 1 ≤ timeoutS * fClkHz ∧ timeoutS * fClkHz < 2 ^ 32 ∧ modeTableInjective t = true then
    some ⟨BitVec.ofNat 32 (timeoutS * fClkHz), t⟩
  else none

/-- Byte `i` of a packet or buffer (R11). An index above 4 names no byte; no rule uses one (log entry 21). -/
def getByte (p : Packet) : Nat → Byte
  | 0 => p.b0
  | 1 => p.b1
  | 2 => p.b2
  | 3 => p.b3
  | 4 => p.b4
  | _ => 0

/-- A packet with byte `i` replaced (R177: `buf1[st.rxcnt] <- rx_data`). -/
def setByte (p : Packet) (b : Byte) : Nat → Packet
  | 0 => { p with b0 := b }
  | 1 => { p with b1 := b }
  | 2 => { p with b2 := b }
  | 3 => { p with b3 := b }
  | 4 => { p with b4 := b }
  | _ => p

end Sys2Proof.Machine
end

