-- ==== Sys2Proof/Machine/Encoder.lean ====
section
/-! DEFINITION. The Command Encoder (40_encoder.md): one definition per packet, R111 to R119. It reads no state. -/
namespace Sys2Proof.Machine

/-- R111. -/
def packetLockOn : Packet := ⟨0x00, 0x00, 0x00, 0x00, 0x00⟩

/-- R112. -/
def packetLockOff : Packet := ⟨0x00, 0x00, 0x00, 0x00, 0x80⟩

/-- R113. -/
def packetPttOn : Packet := ⟨0x00, 0x00, 0x00, 0x00, 0x08⟩

/-- R114. -/
def packetPttOff : Packet := ⟨0x00, 0x00, 0x00, 0x00, 0x88⟩

/-- R115, given the wire code `MODE_CODE[idx]`. -/
def packetSetModeCode (code : Byte) : Packet := ⟨code, 0x00, 0x00, 0x00, 0x07⟩

/-- R115: `SetModePacket(idx)`. -/
def packetSetMode (t : ModeTable) (m : Mode) : Packet := packetSetModeCode (modeCode t m)

/-- R116, given the four frequency bytes. -/
def packetSetFreqBytes (f : FreqBytes) : Packet := ⟨f.f0, f.f1, f.f2, f.f3, 0x01⟩

/-- R116. -/
def packetSetFreq (n : Word32) : Packet := packetSetFreqBytes (encFreq n)

/-- R117. -/
def packetGetFreqMode : Packet := ⟨0x00, 0x00, 0x00, 0x00, 0x03⟩

/-- R118. -/
def packetGetRxStatus : Packet := ⟨0x00, 0x00, 0x00, 0x00, 0xE7⟩

/-- R119. -/
def packetGetTxStatus : Packet := ⟨0x00, 0x00, 0x00, 0x00, 0xF7⟩

end Sys2Proof.Machine
end

