-- ==== Sys2Proof/Machine/State.lean ====
section
/-! DEFINITION. The state of CATC: exactly the elements of 10_state.md R20, and beside them the model's own two fields, the
parameters of 00_scope.md R8 (log entry 1) and the port samples of the coming clock edges (log entry 5). -/
namespace Sys2Proof.Machine

/-- `seq_state` (R21). The value 7 is unused: a model that meets it faults. -/
inductive SeqState where
  | disconnected | opening | connected | sending | awaitingReply | idle | unresponsive | unused7
deriving DecidableEq, Repr

/-- `kind` (R28): which decoder the command in flight needs. -/
inductive Kind where
  | none | fm | rx | tx
deriving DecidableEq, Repr

/-- Every input of CATC as it stands in the cycle before one clock edge (43_sequencer.md R170, R171, R172). -/
structure PortIn where
  rst : Bool
  cmdValid : Bool
  cmdWord : HostWord
  openDone : Bool
  openOk : Bool
  txDone : Bool
  txCount : BitVec 3
  rxValid : Bool
  rxData : Byte
  stsAddr : BitVec 4
deriving DecidableEq, Repr

/-- Every input at 0: what the ports carry where nothing drives them (log entry 6). -/
def PortIn.quiet : PortIn :=
  ⟨false, false, 0, false, false, false, 0, false, 0, 0⟩

/-- The architectural state (R20), element by element, and the model's own `cfg` and `inputs`. -/
structure State where
  /-- `seq_state`, R21. -/
  seqState : SeqState
  /-- `unresp`, R26. -/
  unresp : Bool
  /-- `first_q`, R27. -/
  firstQ : Bool
  /-- `result`, R24. -/
  result : BitVec 4
  /-- `last_hop`, R25. -/
  lastHop : Byte
  /-- `kind`, R28. -/
  kind : Kind
  /-- `tmr`, R29. -/
  tmr : Word32
  /-- `rxcnt`, R33. -/
  rxcnt : BitVec 3
  /-- `rxbuf[0..4]`, R33. -/
  rxbuf : Packet
  /-- `txpkt[0..4]`, R32. -/
  txpkt : Packet
  /-- `txpkt_valid`, R32. -/
  txpktValid : Bool
  /-- `fm_valid`, R30. -/
  fmValid : Bool
  /-- `fm_raw[0..4]`, R30. -/
  fmRaw : Packet
  /-- `rx_valid`, R30. -/
  rxValid : Bool
  /-- `rx_raw`, R30. -/
  rxRaw : Byte
  /-- `tx_valid`, R30. -/
  txValid : Bool
  /-- `tx_raw`, R30. -/
  txRaw : Byte
  /-- `done_r`, R34. -/
  doneR : Bool
  /-- `open_req`, R34. -/
  openReq : Bool
  /-- `open_speed`, R34. -/
  openSpeed : Word32
  /-- `close_req`, R34. -/
  closeReq : Bool
  /-- `tx_start`, R34. -/
  txStart : Bool
  /-- The model's own: the parameters of R8, which no step writes (log entry 1). -/
  cfg : Config
  /-- The model's own: the port samples of the coming edges, oldest first (log entry 5). -/
  inputs : List PortIn
deriving DecidableEq, Repr

/-- Why a step stops with a fault. -/
inductive Fault where
  /-- Raised by a step or a meaning that meets `seq_state` = 7 (R21, 43_sequencer.md R172). Safe: the spec asks for it and
  no step from reset reaches it. -/
  | unusedSeqState
  /-- Raised by a step that sees `done` = 1 with a `result` of 10 or more (60_exceptions.md R241). Safe: the spec asks for
  it and no step from reset reaches it. -/
  | unusedResultCode
deriving DecidableEq, Repr

/-- Why a step is refused. -/
inductive Refusal where
  /-- An instruction that has no meaning yet. No arm of exec uses it. Safe. -/
  | notModelled (mnemonic : String)
  /-- Raised by a step over parameters that R8 calls ill-formed: TIMEOUT_CYCLES = 0 or a MODE_CODE that is not injective.
  Safe: R8 says that a model refuses them (log entry 4). -/
  | illFormedConfig
deriving DecidableEq, Repr

/-- The machine right after reset (R20's reset column; 70_reset_and_hazards.md R260, R261). `cfg` and `inputs` are the
model's own, with values of log entries 2 and 6. -/
def State.reset : State where
  seqState := .disconnected
  unresp := false
  firstQ := false
  result := 15
  lastHop := 0x00
  kind := .none
  tmr := 0
  rxcnt := 0
  rxbuf := Packet.zero
  txpkt := Packet.zero
  txpktValid := false
  fmValid := false
  fmRaw := Packet.zero
  rxValid := false
  rxRaw := 0x00
  txValid := false
  txRaw := 0x00
  doneR := false
  openReq := false
  openSpeed := 0
  closeReq := false
  txStart := false
  cfg := Config.atReset
  inputs := []

end Sys2Proof.Machine
end

