-- ==== Sys2Proof/Machine/Flags.lean ====
section
/-! DEFINITION. The flags and codes: seq_state and kind as bits (10_state.md R21, R28), BUSY (R23), the result codes
(60_exceptions.md R230), and the status bitfields (42_response_decoder.md R152, R153). -/
namespace Sys2Proof.Machine

/-- The 3 bits of `seq_state` (R21). -/
def seqBits : SeqState → BitVec 3
  | .disconnected => 0
  | .opening => 1
  | .connected => 2
  | .sending => 3
  | .awaitingReply => 4
  | .idle => 5
  | .unresponsive => 6
  | .unused7 => 7

/-- The 2 bits of `kind` (R28). -/
def kindBits : Kind → BitVec 2
  | .none => 0
  | .fm => 1
  | .rx => 2
  | .tx => 3

/-- `BUSY` (R23). -/
def busy : SeqState → Bool
  | .opening | .sending | .awaitingReply => true
  | .disconnected | .connected | .idle | .unresponsive | .unused7 => false

/-- A ready state: one in which `cmd_ready` = 1 and a command can be accepted (R21, R173). -/
def ready : SeqState → Bool
  | .disconnected | .connected | .idle | .unresponsive => true
  | .opening | .sending | .awaitingReply | .unused7 => false

/-- A ready state with a session open: CONNECTED, IDLE or UNRESPONSIVE (R175: `conn`). -/
def sessionOpen : SeqState → Bool
  | .connected | .idle | .unresponsive => true
  | .disconnected | .opening | .sending | .awaitingReply | .unused7 => false

/-- The result codes a command can end with (R230, codes 0 to 9). -/
inductive ResultCode where
  | ok | deviceUnavailable | shortWrite | noReply | shortRead | unknownMode | notAvailable
  | notConnected | alreadyConnected | illegalCommand
deriving DecidableEq, Repr

/-- The number of a result code (R230). -/
def resultBits : ResultCode → BitVec 4
  | .ok => 0
  | .deviceUnavailable => 1
  | .shortWrite => 2
  | .noReply => 3
  | .shortRead => 4
  | .unknownMode => 5
  | .notAvailable => 6
  | .notConnected => 7
  | .alreadyConnected => 8
  | .illegalCommand => 9

/-- The fields of an RX status byte. -/
structure RxFields where
  signal : BitVec 4
  centered : Bool
  ctcssDcsActive : Bool
  squelched : Bool
deriving DecidableEq, Repr

/-- `RxFields(b)` (R152), with the polarity of R157: a set bit 5 makes `centered` false. Bit 4 is not read. -/
def rxFields (b : Byte) : RxFields where
  signal := b.extractLsb' 0 4
  centered := !b.getLsbD 5
  ctcssDcsActive := b.getLsbD 6
  squelched := b.getLsbD 7

/-- The fields of a TX status byte. -/
structure TxFields where
  power : BitVec 4
  split : Bool
  swrHigh : Bool
  pttOn : Bool
deriving DecidableEq, Repr

/-- `TxFields(b)` (R153), with the polarity of R157: a set bit 5 makes `split` false. Bit 4 is not read. -/
def txFields (b : Byte) : TxFields where
  power := b.extractLsb' 0 4
  split := !b.getLsbD 5
  swrHigh := b.getLsbD 6
  pttOn := b.getLsbD 7

/-- The TX "not available" sentinel: only `r[0]` is compared (R154). -/
def txSentinel (reply : Packet) : Bool := decide (reply.b0 = 0xFF)

end Sys2Proof.Machine
end

