-- ==== Sys2Proof/Machine/Ops.lean ====
section
/-! DEFINITION. The operations every meaning and every step rule is written with (43_sequencer.md R174 to R184). An error
is reported by `finish` and `complete`, the one shared form of it (60_exceptions.md R242). The writes of one step take effect
together (00_scope.md R12): no operation below reads an element that an earlier one of the same step has written, but for
`buf1`, `cnt1`, which the rules name. -/
namespace Sys2Proof.Machine

/-- `PulseDefaults()` (R174, 10_state.md R34). -/
def State.pulseDefaults (s : State) : State :=
  { s with doneR := false, openReq := false, closeReq := false, txStart := false }

/-- `st.last_hop <- hop` at acceptance (R175, 10_state.md R25). -/
def State.setLastHop (s : State) (hop : Byte) : State := { s with lastHop := hop }

/-- `Finish(code)` (R182). -/
def State.finish (s : State) (code : ResultCode) : State :=
  { s with result := resultBits code, doneR := true }

/-- The value `u` that `Complete` gives `unresp` (R183): the first probe got no reply, or as before. -/
def completeUnresp (s : State) (code : ResultCode) : Bool :=
  s.unresp || (decide (s.kind ≠ .none) && decide (code = .noReply) && s.firstQ)

/-- Where `Complete` leaves `seq_state`, given the new `unresp` (R183). -/
def restingState (unresp : Bool) : SeqState := if unresp then .unresponsive else .idle

/-- The writes of `Complete(code)` before its `Finish` (R183). -/
def State.endExchange (s : State) (code : ResultCode) : State :=
  { s with
    unresp := completeUnresp s code
    firstQ := if s.kind = .none then s.firstQ else false
    kind := .none
    seqState := restingState (completeUnresp s code) }

/-- `Complete(code)` (R183). -/
def State.complete (s : State) (code : ResultCode) : State := (s.endExchange code).finish code

/-- The writes of CONNECT without a session (R175, R200). -/
def State.requestOpen (s : State) (speed : Word32) : State :=
  { s with openReq := true, openSpeed := speed, seqState := .opening }

/-- The writes of DISCONNECT in a session (R175, R201). -/
def State.closeSession (s : State) : State :=
  { s with closeReq := true, seqState := .disconnected, firstQ := false }

/-- `Dispatch(pkt, k)` (R176): a query also arms the reply capture. -/
def State.dispatch (s : State) (pkt : Packet) (k : Kind) : State :=
  { s with
    txpkt := pkt
    txpktValid := true
    txStart := true
    kind := k
    seqState := .sending
    rxcnt := if k = .none then s.rxcnt else 0
    rxbuf := if k = .none then s.rxbuf else Packet.zero }

/-- `Capture()` stores the byte of this edge (R177). -/
def captures (s : State) (p : PortIn) : Bool :=
  decide (s.kind ≠ .none) && p.rxValid && decide (s.rxcnt.toNat < pktLen)

/-- `st.rxbuf <- buf1; st.rxcnt <- cnt1` (R177). -/
def State.holdReply (s : State) (buf1 : Packet) (cnt1 : BitVec 3) : State := { s with rxbuf := buf1, rxcnt := cnt1 }

/-- `Capture()` (R177): the state with `buf1` and `cnt1` in `rxbuf` and `rxcnt`. -/
def State.capture (s : State) (p : PortIn) : State :=
  if captures s p then s.holdReply (setByte s.rxbuf p.rxData s.rxcnt.toNat) (s.rxcnt + 1) else s

/-- The frequency/mode part takes a reply (R181, 42_response_decoder.md R151). -/
def State.commitFm (s : State) (reply : Packet) : State := { s with fmRaw := reply, fmValid := true }

/-- The RX part takes a status byte (R181, 42_response_decoder.md R152). -/
def State.commitRx (s : State) (b : Byte) : State := { s with rxRaw := b, rxValid := true }

/-- The TX part takes a status byte (R181, 42_response_decoder.md R153). -/
def State.commitTx (s : State) (b : Byte) : State := { s with txRaw := b, txValid := true }

/-- `DecodeCommit(buf)` (R181), with `buf` in `rxbuf`. `kind` = NONE never reaches it; the state is then left as it is
(log entry 21). -/
def State.decodeCommit (s : State) : State :=
  match s.kind with
  | .fm => (s.commitFm s.rxbuf).complete .ok
  | .rx => (s.commitRx s.rxbuf.b0).complete .ok
  | .tx =>
    if txSentinel s.rxbuf then s.complete .notAvailable
    else (s.commitTx s.rxbuf.b0).complete .ok
  | .none => s

/-- `st.tmr <- v` (R178, R180). -/
def State.setTimer (s : State) (v : Word32) : State := { s with tmr := v }

/-- `st.seq_state <- q` (R178, R184). -/
def State.enter (s : State) (q : SeqState) : State := { s with seqState := q }

/-- `TimerStep()` (R180), after the capture of the same edge. -/
def State.timerStep (s : State) : State :=
  if s.tmr.toNat ≤ 1 then s.complete (if s.rxcnt = 0 then .noReply else .shortRead)
  else s.setTimer (s.tmr - 1)

/-- The write answer of `SendingStep()` (R178), after the capture of the same edge. -/
def State.writeAnswer (s : State) (txCount : BitVec 3) : State :=
  if txCount.toNat ≠ pktLen then s.complete .shortWrite
  else if s.kind = .none then s.complete .ok
  else if s.rxcnt.toNat = pktLen then s.decodeCommit
  else (s.setTimer s.cfg.timeoutCycles).enter .awaitingReply

/-- `SendingStep()` (R178). -/
def State.sendingStep (s : State) (p : PortIn) : State :=
  if p.txDone then (s.capture p).writeAnswer p.txCount else s.capture p

/-- `AwaitStep()` (R179). -/
def State.awaitStep (s : State) (p : PortIn) : State :=
  if (s.capture p).rxcnt.toNat = pktLen then (s.capture p).decodeCommit else (s.capture p).timerStep

/-- The writes of a successful CONNECT (R184): the status record starts empty (10_state.md R31). -/
def State.startSession (s : State) : State :=
  { s with
    seqState := .connected
    firstQ := true
    unresp := false
    fmValid := false
    fmRaw := Packet.zero
    rxValid := false
    rxRaw := 0x00
    txValid := false
    txRaw := 0x00 }

/-- `OpeningStep()` (R184). -/
def State.openingStep (s : State) (p : PortIn) : State :=
  if p.openDone then
    if p.openOk then s.startSession.finish .ok
    else (s.enter .disconnected).finish .deviceUnavailable
  else s

/-- `Reset()` (70_reset_and_hazards.md R260): every element takes its reset value; the parameters and the samples of the
coming edges, which are not CATC's, stay. -/
def State.resetEdge (s : State) : State := { State.reset with cfg := s.cfg, inputs := s.inputs }

/-- The port sample that the coming edge reads (R172); all zeros where nothing drives the ports (log entry 6). -/
def State.sample (s : State) : PortIn := s.inputs.headD PortIn.quiet

/-- The state with that sample used up. -/
def State.advance (s : State) : State := { s with inputs := s.inputs.tail }

/-- Acceptance of a command word with host opcode `hop` (R173, R175): in a ready state `last_hop` is written and the command
starts; while BUSY the word is not accepted and nothing records it (log entry 10). -/
def accept (hop : Byte) (start : State → State) (s : State) : Host.Outcome State Fault Refusal :=
  match s.seqState with
  | .disconnected | .connected | .idle | .unresponsive => .next (start (s.setLastHop hop))
  | .opening | .sending | .awaitingReply => .next s
  | .unused7 => .fault .unusedSeqState

/-- `if not conn: Finish(NOT_CONNECTED) else ...` (R175). -/
def needSession (start : State → State) (s : State) : State :=
  if s.seqState = .disconnected then s.finish .notConnected else start s

/-- A host command that sends a packet (R175, R176). -/
def acceptPacket (hop : Byte) (pkt : Packet) (k : Kind) (s : State) : Host.Outcome State Fault Refusal :=
  accept hop (needSession fun s => s.dispatch pkt k) s

/-- A reserved host opcode (R81, R211). -/
def acceptReserved (hop : Byte) (s : State) : Host.Outcome State Fault Refusal :=
  accept hop (fun s => s.finish .illegalCommand) s

/-- A CAT packet as CATC executes it: the `Dispatch` of R176, under the conditions of R175 (log entry 9). -/
def issuePacket (pkt : Packet) (k : Kind) (s : State) : Host.Outcome State Fault Refusal :=
  match s.seqState with
  | .disconnected | .connected | .idle | .unresponsive => .next (needSession (fun s => s.dispatch pkt k) s)
  | .opening | .sending | .awaitingReply => .next s
  | .unused7 => .fault .unusedSeqState

end Sys2Proof.Machine
end

