-- ==== Sys2Proof/Machine/CatPacket.lean ====
section
/-! DEFINITION. The nine CAT packets (40_encoder.md R111 to R119) as CATC executes them: the packet is handed to the
transport by `Dispatch` with the kind that 30_encoding.md R80 gives it (log entry 9). What the transceiver does with it
is out of scope (00_scope.md R6). -/
namespace Sys2Proof.Machine

/-- LOCK_ON packet (R111). -/
def execCatLockOn (s : State) : Host.Outcome State Fault Refusal := issuePacket packetLockOn .none s

/-- LOCK_OFF packet (R112). -/
def execCatLockOff (s : State) : Host.Outcome State Fault Refusal := issuePacket packetLockOff .none s

/-- PTT_ON packet (R113). -/
def execCatPttOn (s : State) : Host.Outcome State Fault Refusal := issuePacket packetPttOn .none s

/-- PTT_OFF packet (R114). -/
def execCatPttOff (s : State) : Host.Outcome State Fault Refusal := issuePacket packetPttOff .none s

/-- SET_FREQUENCY packet (R116). -/
def execCatSetFrequency (f : FreqBytes) (s : State) : Host.Outcome State Fault Refusal :=
  issuePacket (packetSetFreqBytes f) .none s

/-- SET_MODE packet (R115). -/
def execCatSetMode (code : Byte) (s : State) : Host.Outcome State Fault Refusal :=
  issuePacket (packetSetModeCode code) .none s

/-- GET_FREQ_MODE packet (R117). -/
def execCatGetFreqMode (s : State) : Host.Outcome State Fault Refusal := issuePacket packetGetFreqMode .fm s

/-- GET_RX_STATUS packet (R118). -/
def execCatGetRxStatus (s : State) : Host.Outcome State Fault Refusal := issuePacket packetGetRxStatus .rx s

/-- GET_TX_STATUS packet (R119). -/
def execCatGetTxStatus (s : State) : Host.Outcome State Fault Refusal := issuePacket packetGetTxStatus .tx s

end Sys2Proof.Machine
end

