-- ==== Sys2Proof/Machine/Link.lean ====
section
/-! DEFINITION. The session commands CONNECT and DISCONNECT (44_commands.md R200, R201). -/
namespace Sys2Proof.Machine

/-- CONNECT at its acceptance edge (R200); `openingStep` is the rest. -/
def execConnect (speed : Word32) (s : State) : Host.Outcome State Fault Refusal :=
  accept 0x01 (fun s =>
    if s.seqState = .disconnected then s.requestOpen speed
    else s.finish .alreadyConnected) s

/-- DISCONNECT (R201). -/
def execDisconnect (_ignored : Word32) (s : State) : Host.Outcome State Fault Refusal :=
  accept 0x02 (needSession fun s => s.closeSession.finish .ok) s

end Sys2Proof.Machine
end

