-- ==== Sys2Proof/Machine/PureCommand.lean ====
section
/-! DEFINITION. The pure commands (44_commands.md R202 to R207) at their acceptance edge; `sendingStep` is the rest. -/
namespace Sys2Proof.Machine

/-- LOCK_ON (R202). -/
def execLockOn (_ignored : Word32) (s : State) : Host.Outcome State Fault Refusal :=
  acceptPacket 0x03 packetLockOn .none s

/-- LOCK_OFF (R203). -/
def execLockOff (_ignored : Word32) (s : State) : Host.Outcome State Fault Refusal :=
  acceptPacket 0x04 packetLockOff .none s

/-- PTT_ON (R204). -/
def execPttOn (_ignored : Word32) (s : State) : Host.Outcome State Fault Refusal :=
  acceptPacket 0x05 packetPttOn .none s

/-- PTT_OFF (R205). -/
def execPttOff (_ignored : Word32) (s : State) : Host.Outcome State Fault Refusal :=
  acceptPacket 0x06 packetPttOff .none s

/-- SET_FREQ (R206). -/
def execSetFreq (n : Word32) (s : State) : Host.Outcome State Fault Refusal :=
  acceptPacket 0x07 (packetSetFreq n) .none s

/-- SET_MODE (R207): an unknown name is rejected before the connection check (60_exceptions.md R244). -/
def execSetMode (name : Word32) (s : State) : Host.Outcome State Fault Refusal :=
  accept 0x08 (fun s =>
    match modeByName name with
    | none => s.finish .unknownMode
    | some m => needSession (fun s => s.dispatch (packetSetMode s.cfg.modeCode m) .none) s) s

end Sys2Proof.Machine
end

