-- ==== Sys2Proof/Machine/Query.lean ====
section
/-! DEFINITION. The queries (44_commands.md R208 to R210) at their acceptance edge; `sendingStep`, `awaitStep` and
`decodeCommit` are the rest. -/
namespace Sys2Proof.Machine

/-- GET_FREQ_MODE (R208). -/
def execGetFreqMode (_ignored : Word32) (s : State) : Host.Outcome State Fault Refusal :=
  acceptPacket 0x09 packetGetFreqMode .fm s

/-- GET_RX_STATUS (R209). -/
def execGetRxStatus (_ignored : Word32) (s : State) : Host.Outcome State Fault Refusal :=
  acceptPacket 0x0A packetGetRxStatus .rx s

/-- GET_TX_STATUS (R210). -/
def execGetTxStatus (_ignored : Word32) (s : State) : Host.Outcome State Fault Refusal :=
  acceptPacket 0x0B packetGetTxStatus .tx s

end Sys2Proof.Machine
end

