-- ==== Sys2Proof/Machine/Reserved.lean ====
section
/-! DEFINITION. The reserved host opcodes (30_encoding.md R81; 44_commands.md R211), one definition per row of the opcode
table; HOP is the row's fixed bits followed by the free ones. -/
namespace Sys2Proof.Machine

/-- HOP = 0x00. -/
def execReserved00 (_ignored : Word32) (s : State) : Host.Outcome State Fault Refusal :=
  acceptReserved 0x00 s

/-- HOP = 0x0C..0x0F. -/
def execReserved0C (low : BitVec 2) (_ignored : Word32) (s : State) : Host.Outcome State Fault Refusal :=
  acceptReserved (0b000011#6 ++ low) s

/-- HOP = 0x10..0x1F. -/
def execReserved10 (low : BitVec 4) (_ignored : Word32) (s : State) : Host.Outcome State Fault Refusal :=
  acceptReserved (0b0001#4 ++ low) s

/-- HOP = 0x20..0x3F. -/
def execReserved20 (low : BitVec 5) (_ignored : Word32) (s : State) : Host.Outcome State Fault Refusal :=
  acceptReserved (0b001#3 ++ low) s

/-- HOP = 0x40..0x7F. -/
def execReserved40 (low : BitVec 6) (_ignored : Word32) (s : State) : Host.Outcome State Fault Refusal :=
  acceptReserved (0b01#2 ++ low) s

/-- HOP = 0x80..0xFF. -/
def execReserved80 (low : BitVec 7) (_ignored : Word32) (s : State) : Host.Outcome State Fault Refusal :=
  acceptReserved (0b1#1 ++ low) s

end Sys2Proof.Machine
end

