-- ==== Sys2Proof/Machine/Dispatch.lean ====
section
/-! DEFINITION. One arm per instruction. exec is what an instruction does at the edge that accepts it, on a state whose
pulse registers have their defaults; the edges that follow are the step rules of Machine/Ops.lean. -/
namespace Sys2Proof.Machine

def exec (i : Instr) (s : State) : Host.Outcome State Fault Refusal :=
  match i with
  | .connect speed => Sys2Proof.Machine.execConnect speed s
  | .disconnect arg => Sys2Proof.Machine.execDisconnect arg s
  | .lockOn arg => Sys2Proof.Machine.execLockOn arg s
  | .lockOff arg => Sys2Proof.Machine.execLockOff arg s
  | .pttOn arg => Sys2Proof.Machine.execPttOn arg s
  | .pttOff arg => Sys2Proof.Machine.execPttOff arg s
  | .setFreq n => Sys2Proof.Machine.execSetFreq n s
  | .setMode name => Sys2Proof.Machine.execSetMode name s
  | .getFreqMode arg => Sys2Proof.Machine.execGetFreqMode arg s
  | .getRxStatus arg => Sys2Proof.Machine.execGetRxStatus arg s
  | .getTxStatus arg => Sys2Proof.Machine.execGetTxStatus arg s
  | .reserved00 arg => Sys2Proof.Machine.execReserved00 arg s
  | .reserved0C low arg => Sys2Proof.Machine.execReserved0C low arg s
  | .reserved10 low arg => Sys2Proof.Machine.execReserved10 low arg s
  | .reserved20 low arg => Sys2Proof.Machine.execReserved20 low arg s
  | .reserved40 low arg => Sys2Proof.Machine.execReserved40 low arg s
  | .reserved80 low arg => Sys2Proof.Machine.execReserved80 low arg s
  | .catLockOn => Sys2Proof.Machine.execCatLockOn s
  | .catLockOff => Sys2Proof.Machine.execCatLockOff s
  | .catPttOn => Sys2Proof.Machine.execCatPttOn s
  | .catPttOff => Sys2Proof.Machine.execCatPttOff s
  | .catSetFrequency f => Sys2Proof.Machine.execCatSetFrequency f s
  | .catSetMode code => Sys2Proof.Machine.execCatSetMode code s
  | .catGetFreqMode => Sys2Proof.Machine.execCatGetFreqMode s
  | .catGetRxStatus => Sys2Proof.Machine.execCatGetRxStatus s
  | .catGetTxStatus => Sys2Proof.Machine.execCatGetTxStatus s

end Sys2Proof.Machine
end

