-- ==== Sys2Proof/Machine/Sequencer.lean ====
section
/-! DEFINITION. The clock step of CATC (43_sequencer.md R172) over one port sample, and how a word is placed on the command
port. -/
namespace Sys2Proof.Machine

/-- A ready state at an edge: an offered word is accepted and run (R172, R173), or nothing happens. -/
def readyStep (p : PortIn) (s : State) : Host.Outcome State Fault Refusal :=
  if p.cmdValid then exec (decodeHost p.cmdWord) s else .next s

/-- One rising edge of `clk` that samples `p` (R172). Reset wins over everything (60_exceptions.md R245), the two faults
included (log entry 11); the fault of R241 is raised at the edge after the pulse (log entry 12). -/
def clockEdge (p : PortIn) (s : State) : Host.Outcome State Fault Refusal :=
  if p.rst then .next s.resetEdge
  else if s.doneR && decide (10 ≤ s.result.toNat) then .fault .unusedResultCode
  else
    match s.seqState with
    | .disconnected | .connected | .idle | .unresponsive => readyStep p s.pulseDefaults
    | .opening => .next (s.pulseDefaults.openingStep p)
    | .sending => .next (s.pulseDefaults.sendingStep p)
    | .awaitingReply => .next (s.pulseDefaults.awaitStep p)
    | .unused7 => .fault .unusedSeqState

/-- The port sample `p` with the host offering `w`, and `rst` low. -/
def PortIn.offering (p : PortIn) (w : HostWord) : PortIn := { p with rst := false, cmdValid := true, cmdWord := w }

/-- The state whose coming edge samples `w` on the command port. -/
def State.offerWord (s : State) (w : HostWord) : State := { s with inputs := s.sample.offering w :: s.inputs.tail }

end Sys2Proof.Machine
end

