-- ==== Sys2Proof/Machine/Step.lean ====
section
/-! DEFINITION. The machine's step: one clock edge (43_sequencer.md R172). -/
namespace Sys2Proof.Machine

/-- One rising edge of `clk`: the oldest sample of `inputs` is what the ports carried before it. Parameters that 00_scope.md
R8 calls ill-formed are refused (log entry 4). -/
def step (s : State) : Host.Outcome State Fault Refusal :=
  if configWf s.cfg then clockEdge s.sample s.advance else .refused .illFormedConfig

/-- The instruction of table word `w` where the step takes its next instruction: on the command port at the coming edge
(log entry 7). -/
def State.withFetchWord (s : State) (nbits w : Nat) : State :=
  s.offerWord (BitVec.ofNat 40 (w % 2 ^ nbits))

end Sys2Proof.Machine
end

