-- ==== Sys2Proof/Machine/Asm.lean ====
section
/-! DEFINITION. The textual form of a host command and the pseudo-instructions (30_encoding.md R88, R89), on lists of
characters. What R88 leaves open of blanks, quotes and numerals is log entry 15. -/
namespace Sys2Proof.Machine.Asm

/-- Why a line is refused (R88, R89). -/
inductive AsmError where
  | unknownMnemonic
  | missingOperand
  | unexpectedOperand
  | badInteger
  | badName
  | badFrequency
  | badFlag
deriving DecidableEq, Repr

/-- A blank between the parts of a line. -/
def isBlank (c : Char) : Bool := decide (c = ' ') || decide (c = '\t')

/-- A line without its leading blanks. -/
def skipBlanks (cs : List Char) : List Char := cs.dropWhile isBlank

/-- Nothing but blanks and a comment is left. -/
def atEnd (cs : List Char) : Bool :=
  match skipBlanks cs with
  | [] => true
  | c :: _ => decide (c = ';')

/-- A character of a mnemonic or a number. -/
def inToken (c : Char) : Bool := !isBlank c && decide (c ≠ ';')

/-- The value of a decimal digit. -/
def decDigit (c : Char) : Option Nat := if 48 ≤ c.toNat ∧ c.toNat ≤ 57 then some (c.toNat - 48) else none

/-- The value of a hexadecimal digit, in either case. -/
def hexDigit (c : Char) : Option Nat :=
  if 65 ≤ c.toNat ∧ c.toNat ≤ 70 then some (c.toNat - 55)
  else if 97 ≤ c.toNat ∧ c.toNat ≤ 102 then some (c.toNat - 87)
  else decDigit c

/-- The number that digits spell after `acc`. -/
def digitsFrom (digit : Char → Option Nat) (base : Nat) : Nat → List Char → Option Nat
  | acc, [] => some acc
  | acc, c :: cs =>
    match digit c with
    | some d => digitsFrom digit base (acc * base + d) cs
    | none => none

/-- The number that one or more digits spell. -/
def digits (digit : Char → Option Nat) (base : Nat) (cs : List Char) : Option Nat :=
  if cs.isEmpty then none else digitsFrom digit base 0 cs

/-- `integer` of R88, without its range. -/
def integer : List Char → Option Nat
  | '0' :: 'x' :: cs => digits hexDigit 16 cs
  | cs => digits decDigit 10 cs

/-- The one operand token of a line. -/
def tokenOperand (rest : List Char) : Except AsmError (List Char) :=
  if atEnd rest then .error .missingOperand
  else if atEnd ((skipBlanks rest).dropWhile inToken) then .ok ((skipBlanks rest).takeWhile inToken)
  else .error .unexpectedOperand

/-- An integer operand, 0 .. 2^32-1 (R88). -/
def integerOperand (rest : List Char) : Except AsmError Word32 := do
  let token ← tokenOperand rest
  match integer token with
  | some n => if n < 2 ^ 32 then .ok (BitVec.ofNat 32 n) else .error .badInteger
  | none => .error .badInteger

/-- A `char` of R88: printable ASCII. -/
def isNameChar (c : Char) : Bool := decide (0x20 ≤ c.toNat) && decide (c.toNat ≤ 0x7E)

/-- A quoted operand ends after `k` characters of `body`: a quote stands there, with only blanks and a comment behind it. -/
def closesAt (body : List Char) (k : Nat) : Bool :=
  match body.drop k with
  | c :: tail => decide (c = '"') && atEnd tail
  | [] => false

/-- A quoted operand: the shortest one that closes. Its characters and its length are its user's concern. DESIGN CHOICE (log
entry 15): the `s` of SET_MODE_NAME is quoted as R88 quotes the name of SET_MODE (R89 gives `s` no form), and an unquoted one
is refused. -/
def quotedOperand (rest : List Char) : Except AsmError (List Char) :=
  if atEnd rest then .error .missingOperand
  else
    match skipBlanks rest with
    | '"' :: body =>
      match (List.range body.length).find? (closesAt body) with
      | some k => .ok (body.take k)
      | none => .error .badName
    | _ => .error .badName

/-- The byte of character `k` of a name, 0x00 beyond its end (R84). -/
def nameByte (name : List Char) (k : Nat) : Byte :=
  match name[k]? with
  | some c => BitVec.ofNat 8 c.toNat
  | none => 0

/-- A name of up to 4 characters as an ARG word: `c0` in [31:24] (R84). -/
def packName (name : List Char) : Word32 :=
  nameByte name 0 ++ nameByte name 1 ++ nameByte name 2 ++ nameByte name 3

/-- SET_MODE with a name (R88): at most 4 characters, each printable ASCII. -/
def setModeNamed (name : List Char) : Except AsmError Instr :=
  if name.length ≤ 4 ∧ name.all isNameChar = true then .ok (.setMode (packName name)) else .error .badName

/-- SET_MODE_NAME (R89): SET_MODE with the name if it has at most 4 characters, and the ARG word of no name for any longer one,
whatever its characters. -/
def setModeAnyName (name : List Char) : Except AsmError Instr :=
  if name.length ≤ 4 then setModeNamed name else .ok (.setMode 0xFFFFFFFF)

/-- The fraction of a MHz numeral: one to five digits, in units of 10 Hz (R89). -/
def fraction (cs : List Char) : Option Nat :=
  if cs.length ≤ 5 then (digits decDigit 10 cs).map (· * 10 ^ (5 - cs.length)) else none

/-- `x × 100000` for a decimal numeral `x` with at most 5 fractional digits (R89). -/
def mhzUnits (cs : List Char) : Option Nat :=
  match digits decDigit 10 (cs.takeWhile (· ≠ '.')), cs.dropWhile (· ≠ '.') with
  | some whole, [] => some (whole * 100000)
  | some whole, _ :: frac => (fraction frac).map (whole * 100000 + ·)
  | none, _ => none

/-- SET_FREQ_MHZ (R89): `0 < x < 1000`, exact. -/
def mhzOperand (rest : List Char) : Except AsmError Word32 := do
  let token ← tokenOperand rest
  match mhzUnits token with
  | some n => if 0 < n ∧ n < 1000 * 100000 then .ok (BitVec.ofNat 32 n) else .error .badFrequency
  | none => .error .badFrequency

/-- The boolean operand of LOCK and PTT (R89). -/
def flagOperand (rest : List Char) : Except AsmError Bool := do
  let token ← tokenOperand rest
  if token = ['1'] then .ok true
  else if token = ['0'] then .ok false
  else .error .badFlag

/-- A command that takes no operand. -/
def plain (i : Instr) (rest : List Char) : Except AsmError Instr :=
  if atEnd rest then .ok i else .error .unexpectedOperand

/-- The mnemonics of R88 and the pseudo-instructions of R89, with what each makes of the rest of the line. -/
def assembleCommand (mnemonic rest : List Char) : Except AsmError Instr :=
  if mnemonic = "CONNECT".toList then (integerOperand rest).map .connect
  else if mnemonic = "DISCONNECT".toList then plain (.disconnect 0) rest
  else if mnemonic = "LOCK_ON".toList then plain (.lockOn 0) rest
  else if mnemonic = "LOCK_OFF".toList then plain (.lockOff 0) rest
  else if mnemonic = "PTT_ON".toList then plain (.pttOn 0) rest
  else if mnemonic = "PTT_OFF".toList then plain (.pttOff 0) rest
  else if mnemonic = "SET_FREQ".toList then (integerOperand rest).map .setFreq
  else if mnemonic = "SET_MODE".toList then (quotedOperand rest).bind setModeNamed
  else if mnemonic = "GET_FREQ_MODE".toList then plain (.getFreqMode 0) rest
  else if mnemonic = "GET_RX_STATUS".toList then plain (.getRxStatus 0) rest
  else if mnemonic = "GET_TX_STATUS".toList then plain (.getTxStatus 0) rest
  else if mnemonic = "LOCK".toList then
    (flagOperand rest).map fun b => if b then .lockOn 0 else .lockOff 0
  else if mnemonic = "PTT".toList then
    (flagOperand rest).map fun b => if b then .pttOn 0 else .pttOff 0
  else if mnemonic = "SET_FREQ_MHZ".toList then (mhzOperand rest).map .setFreq
  else if mnemonic = "SET_MODE_NAME".toList then (quotedOperand rest).bind setModeAnyName
  else .error .unknownMnemonic

/-- One line (R88): `none` where it holds no command. DESIGN CHOICE (log entry 15): the mnemonic runs to the first blank or
semicolon, so at least one blank separates it from its operand; a quoted operand that follows with no blank is part of an
unknown mnemonic. -/
def assembleLine (line : List Char) : Except AsmError (Option Instr) :=
  if atEnd line then .ok none
  else
    (assembleCommand ((skipBlanks line).takeWhile inToken) ((skipBlanks line).dropWhile inToken)).map some

end Sys2Proof.Machine.Asm
end

