-- ==== Sys2Proof/Machine/StatusSpace.lean ====
section
/-! DEFINITION. The status space (10_state.md R35 to R45; 20_memory.md R56, R61) and the output ports (43_sequencer.md
R170, R171): functions of the state, with no effect on it (log entry 16). -/
namespace Sys2Proof.Machine

/-- One bit. -/
def bit (b : Bool) : BitVec 1 := BitVec.ofBool b

/-- Word 0, SEQ (R35). -/
def wordSeq (s : State) : Word32 :=
  0#6 ++ kindBits s.kind ++ s.lastHop ++ 0#4 ++ s.result ++ 0#2 ++ bit s.firstQ ++ bit s.unresp
    ++ bit (busy s.seqState) ++ seqBits s.seqState

/-- Word 1, FREQ (R36). -/
def wordFreq (s : State) : Word32 :=
  if s.fmValid then
    1#1 ++ bit (decFreq s.fmRaw.payload).2 ++ 0#2 ++ BitVec.ofNat 28 (decFreq s.fmRaw.payload).1
  else 0

/-- Word 2, MODE (R37). -/
def wordMode (s : State) : Word32 :=
  if s.fmValid then 1#1 ++ 0#19 ++ modeIndex (modeByCode s.cfg.modeCode s.fmRaw.b4) ++ s.fmRaw.b4 else 0

/-- Word 3, RXST (R38). -/
def wordRxst (s : State) : Word32 :=
  if s.rxValid then
    1#1 ++ 0#16 ++ bit (rxFields s.rxRaw).squelched ++ bit (rxFields s.rxRaw).ctcssDcsActive
      ++ bit (rxFields s.rxRaw).centered ++ (rxFields s.rxRaw).signal ++ s.rxRaw
  else 0

/-- Word 4, TXST (R39). -/
def wordTxst (s : State) : Word32 :=
  if s.txValid then
    1#1 ++ 0#16 ++ bit (txFields s.txRaw).pttOn ++ bit (txFields s.txRaw).swrHigh
      ++ bit (txFields s.txRaw).split ++ (txFields s.txRaw).power ++ s.txRaw
  else 0

/-- Four bytes in one word, byte 0 the most significant (20_memory.md R54). -/
def packPayload (p : Packet) : Word32 := p.b0 ++ p.b1 ++ p.b2 ++ p.b3

/-- Five bytes in one value, byte 0 the most significant (20_memory.md R54). -/
def packPacket (p : Packet) : BitVec 40 := p.b0 ++ p.b1 ++ p.b2 ++ p.b3 ++ p.b4

/-- Word 6, TXPKT_HI (R40). -/
def wordTxpktHi (s : State) : Word32 := bit s.txpktValid ++ 0#23 ++ s.txpkt.b4

/-- Word 8, RXBUF_HI (R41). -/
def wordRxbufHi (s : State) : Word32 := 0#21 ++ s.rxcnt ++ s.rxbuf.b4

/-- Word 10, FMRAW (R43). -/
def wordFmraw (s : State) : Word32 := if s.fmValid then packPayload s.fmRaw else 0

/-- `StsRead(a)` (R56) over the address map of R61; words 11 to 15 read 0 (R44). -/
def stsRead (s : State) (a : BitVec 4) : Word32 :=
  match a.toNat with
  | 0 => wordSeq s
  | 1 => wordFreq s
  | 2 => wordMode s
  | 3 => wordRxst s
  | 4 => wordTxst s
  | 5 => packPayload s.txpkt
  | 6 => wordTxpktHi s
  | 7 => packPayload s.rxbuf
  | 8 => wordRxbufHi s
  | 9 => s.cfg.timeoutCycles
  | 10 => wordFmraw s
  | _ => 0

/-- Every output of CATC in one cycle (R170, R171). -/
structure PortOut where
  cmdReady : Bool
  done : Bool
  result : BitVec 4
  openReq : Bool
  openSpeed : Word32
  closeReq : Bool
  txStart : Bool
  txData : BitVec 40
  stsRdata : Word32
deriving DecidableEq, Repr

/-- The outputs while `sts_addr` = `a` (R23, R170, R171). -/
def outputs (s : State) (a : BitVec 4) : PortOut where
  cmdReady := !busy s.seqState
  done := s.doneR
  result := s.result
  openReq := s.openReq
  openSpeed := s.openSpeed
  closeReq := s.closeReq
  txStart := s.txStart
  txData := packPacket s.txpkt
  stsRdata := stsRead s a

end Sys2Proof.Machine
end

