-- ==== Sys2Proof/Machine/Observe.lean ====
section
/-! DEFINITION. What a run shows (70_reset_and_hazards.md R273): the completions, the transport requests, the status space at
the end, and when a run has ended. -/
namespace Sys2Proof.Machine

/-- A transport request that CATC issues (R170). -/
inductive Request where
  | openLink (speed : Word32)
  | write (data : BitVec 40)
  | close
deriving DecidableEq, Repr

/-- The requests pulsed in the cycle of state `s`. -/
def requests (s : State) : List Request :=
  (if s.openReq then [.openLink s.openSpeed] else []) ++ (if s.txStart then [.write (packPacket s.txpkt)] else [])
    ++ (if s.closeReq then [.close] else [])

/-- The `(result, last_hop)` pair read at a `done` pulse. -/
def completion (s : State) : Option (BitVec 4 × Byte) := if s.doneR then some (s.result, s.lastHop) else none

/-- The states after each of the next `n` edges, up to the first fault or refusal. -/
def statesAfter : Nat → State → List State
  | 0, _ => []
  | n + 1, s =>
    match step s with
    | .next t => t :: statesAfter n t
    | .fault _ => []
    | .refused _ => []

/-- The sixteen status words. -/
def statusWords (s : State) : List Word32 := (List.range 16).map fun a => stsRead s (BitVec.ofNat 4 a)

/-- The observation at the end of a run (R273). -/
structure Observation where
  words : List Word32
  result : BitVec 4
  completions : List (BitVec 4 × Byte)
  requests : List Request
deriving DecidableEq, Repr

/-- What is observed over the `n` edges that follow `s`. -/
def observe (n : Nat) (s : State) : Observation :=
  let last := (statesAfter n s).getLastD s
  ⟨statusWords last, last.result, (statesAfter n s).filterMap completion, (statesAfter n s).flatMap requests⟩

/-! ### The account of a run -/

/-- What a run's end (R273) and the duties of the other agents (R264, R265) are read from: what has been offered, accepted, asked
of the transport and answered, edge by edge. It is no state of CATC. -/
structure RunAccount where
  /-- `open_req` pulses. -/
  opensAsked : Nat
  /-- Answers to them. An `open_done` that nothing asked for is none. -/
  opensAnswered : Nat
  /-- `tx_start` pulses. -/
  writesAsked : Nat
  /-- Answers to them. A `tx_done` that nothing asked for is none. -/
  writesAnswered : Nat
  /-- The word that the last edge was offered and did not accept. -/
  waiting : Option HostWord
  /-- Words that were taken back or changed before an edge accepted them. -/
  withdrawn : Nat
  /-- The last accepted command has not had its `done`. -/
  inFlight : Bool
  /-- The run has faulted or was refused. -/
  stopped : Bool
deriving DecidableEq, Repr

/-- The account at the start of a run from `s`: an open is outstanding in OPENING and a write in SENDING; none is at reset (log
entry 22). -/
def RunAccount.start (s : State) : RunAccount where
  opensAsked := (decide (s.seqState = .opening)).toNat
  opensAnswered := 0
  writesAsked := (decide (s.seqState = .sending)).toNat
  writesAnswered := 0
  waiting := none
  withdrawn := 0
  inFlight := busy s.seqState
  stopped := false

/-- An open has not had its answer, be the command that asked for it in flight or cut by a reset (R262, R265). -/
def RunAccount.opensOwed (a : RunAccount) : Bool := decide (a.opensAnswered < a.opensAsked)

/-- A write has not had its answer, be the command that asked for it in flight or cut by a reset (R262, R265). -/
def RunAccount.writesOwed (a : RunAccount) : Bool := decide (a.writesAnswered < a.writesAsked)

/-- The edge at `s` accepts the word on its command port (R173). -/
def accepts (s : State) : Bool := ready s.seqState && s.sample.cmdValid && !s.sample.rst

/-- The sample `p` no longer offers the word that waits. -/
def RunAccount.withdraws (a : RunAccount) (p : PortIn) : Bool :=
  match a.waiting with
  | some w => !(p.cmdValid && decide (p.cmdWord = w))
  | none => false

/-- The account after the edge from `s` to `t`. An answer settles a request that an earlier edge has made. -/
def RunAccount.edge (a : RunAccount) (s t : State) : RunAccount where
  opensAsked := a.opensAsked + t.openReq.toNat
  opensAnswered := a.opensAnswered + (s.sample.openDone && a.opensOwed).toNat
  writesAsked := a.writesAsked + t.txStart.toNat
  writesAnswered := a.writesAnswered + (s.sample.txDone && a.writesOwed).toNat
  waiting := if s.sample.cmdValid && !accepts s then some s.sample.cmdWord else none
  withdrawn := a.withdrawn + (a.withdraws s.sample).toNat
  inFlight := (a.inFlight || accepts s) && !t.doneR
  stopped := a.stopped

/-- The state and the account `n` edges on, up to the first fault or refusal. -/
def follow : Nat → State → RunAccount → State × RunAccount
  | 0, s, a => (s, a)
  | n + 1, s, a =>
    match step s with
    | .next t => follow n t (a.edge s t)
    | .fault _ => (s, { a with stopped := true })
    | .refused _ => (s, { a with stopped := true })

/-- The account of the `n` edges that follow `s`. -/
def accountAfter (n : Nat) (s : State) : RunAccount := (follow n s (RunAccount.start s)).2

/-- Condition 1 of R273, at state `t` with account `a`: every word offered has been accepted, and no sample to come offers
another. -/
def allOffersAccepted (t : State) (a : RunAccount) : Bool :=
  decide (a.withdrawn = 0) && decide (a.waiting = none) && t.inputs.all fun p => !p.cmdValid

/-- Condition 4 of R273: every request has had its answer. -/
def RunAccount.allAnswered (a : RunAccount) : Bool := !a.opensOwed && !a.writesOwed

/-- The run from `s` has ended `n` edges on (R273): its four conditions in their order, and no fault. -/
def State.runEnded (n : Nat) (s : State) : Bool :=
  let (t, a) := follow n s (RunAccount.start s)
  allOffersAccepted t a && !a.inFlight && ready t.seqState && a.allAnswered && !a.stopped

end Sys2Proof.Machine
end

