-- ==== Sys2Proof/Safety.lean ====
section
/-! DEFINITION. What counts as a safe run: the invariant that every edge keeps, and the duties that CATC's rules assume of the
host and the transport (70_reset_and_hazards.md R264, R265). -/
namespace Sys2Proof.Machine

/-- The kind of reply that a packet's wire opcode asks for (30_encoding.md R75, R80). -/
def packetKind (p : Packet) : Kind :=
  if p.b4 = 0x03 then .fm else if p.b4 = 0xE7 then .rx else if p.b4 = 0xF7 then .tx else .none

/-- What holds of the session flags and of `seq_state` (10_state.md R21, R26, R27). -/
structure State.PhaseInv (s : State) : Prop where
  /-- R21: the value 7 is never reached. -/
  phaseUsed : s.seqState ≠ .unused7
  /-- R26, R183. -/
  unresponsiveFlag : s.seqState = .unresponsive → s.unresp = true
  /-- R183. -/
  idleFlag : s.seqState = .idle → s.unresp = false
  /-- R184. -/
  connectedFlags : s.seqState = .connected → s.unresp = false ∧ s.firstQ = true
  /-- R27: no session, no first probe to come. -/
  noSessionNoProbe : s.seqState = .disconnected ∨ s.seqState = .opening → s.firstQ = false
  /-- R27, R183: the first probe is over once `unresp` is set. -/
  unrespProbed : s.unresp = true → s.firstQ = false

/-- What holds of `result` and the pulse registers (R24, R34; 60_exceptions.md R241, R247). -/
structure State.PulseInv (s : State) : Prop where
  /-- R241: the codes 10 to 14 are never produced. -/
  resultUsed : s.result.toNat ≤ 9 ∨ s.result = 15
  /-- R241: no `done` pulse carries a code above 9. -/
  doneCode : s.doneR = true → s.result.toNat ≤ 9
  /-- R247: every completion leaves a ready state. -/
  doneReady : s.doneR = true → ready s.seqState = true
  /-- R200: an open request is outstanding in OPENING. -/
  openPhase : s.openReq = true → s.seqState = .opening
  /-- R176: a write request is outstanding in SENDING. -/
  writePhase : s.txStart = true → s.seqState = .sending
  /-- R201, R271. -/
  closePhase : s.closeReq = true → s.seqState = .disconnected ∧ s.doneR = true ∧ s.result = 0

/-- What holds of the exchange in flight (R28, R29, R32, R33). -/
structure State.ExchangeInv (s : State) : Prop where
  /-- R20: 0..5 bytes. -/
  countBound : s.rxcnt.toNat ≤ 5
  /-- R33: the buffer is zero beyond the bytes captured. -/
  bufferTail : ∀ i, s.rxcnt.toNat ≤ i → getByte s.rxbuf i = 0
  /-- R28: `kind` is the in-flight command's. -/
  kindInFlight : s.kind ≠ .none → s.seqState = .sending ∨ s.seqState = .awaitingReply
  /-- R178, R179: only a query waits, and only while its reply is incomplete. -/
  awaiting : s.seqState = .awaitingReply → s.kind ≠ .none ∧ s.rxcnt.toNat < 5
  /-- R29, R180: the timer runs from TIMEOUT_CYCLES down to 1. -/
  timer : s.seqState = .awaitingReply → 1 ≤ s.tmr.toNat ∧ s.tmr.toNat ≤ s.cfg.timeoutCycles.toNat
  /-- R32: nothing sent, nothing held. -/
  nothingSent : s.txpktValid = false → s.txpkt = Packet.zero
  /-- R74 to R76: the packet last handed to the transport is one of the nine. -/
  packetSent : s.txpktValid = true → ∃ i, decodePacket s.txpkt = .ok i
  /-- R176: the packet in flight has been handed over and has the kind recorded. -/
  inFlight : s.seqState = .sending ∨ s.seqState = .awaitingReply → s.txpktValid = true ∧ packetKind s.txpkt = s.kind

/-- What holds of the status record (R30, R31, R39). -/
structure State.RecordInv (s : State) : Prop where
  /-- R31: an absent frequency/mode part is empty. -/
  fmAbsent : s.fmValid = false → s.fmRaw = Packet.zero
  /-- R31: an absent RX part is empty. -/
  rxAbsent : s.rxValid = false → s.rxRaw = 0
  /-- R31: an absent TX part is empty. -/
  txAbsent : s.txValid = false → s.txRaw = 0
  /-- R39: the sentinel is never committed. -/
  txNotSentinel : s.txValid = true → s.txRaw ≠ 0xFF

/-- The invariant of CATC. -/
structure State.Inv (s : State) : Prop where
  phase : s.PhaseInv
  pulses : s.PulseInv
  exchange : s.ExchangeInv
  record : s.RecordInv

/-- The state `s` with `p` on the ports at the coming edge, ahead of the samples that it holds. -/
def State.seeing (s : State) (p : PortIn) : State := { s with inputs := p :: s.inputs }

/-- An edge that neither refuses, resets nor faults on the `done` pulse it follows: well-formed parameters (00_scope.md R8),
`rst` low, and no `done` pulse with an unused code (60_exceptions.md R241). -/
structure State.Clocked (s : State) (p : PortIn) : Prop where
  params : configWf s.cfg = true
  rstLow : p.rst = false
  doneCode : s.doneR = true → s.result.toNat ≤ 9

/-- The two states hold the same status record (10_state.md R30). -/
structure SameRecord (s t : State) : Prop where
  fmValid : t.fmValid = s.fmValid
  fmRaw : t.fmRaw = s.fmRaw
  rxValid : t.rxValid = s.rxValid
  rxRaw : t.rxRaw = s.rxRaw
  txValid : t.txValid = s.txValid
  txRaw : t.txRaw = s.txRaw

/-- The status record is empty (10_state.md R31). -/
structure EmptyRecord (t : State) : Prop where
  fmValid : t.fmValid = false
  fmRaw : t.fmRaw = Packet.zero
  rxValid : t.rxValid = false
  rxRaw : t.rxRaw = 0
  txValid : t.txValid = false
  txRaw : t.txRaw = 0

/-- This edge ends the exchange of `s` with a whole reply: the write has been answered with a count of 5, and five bytes are
captured (43_sequencer.md R178, R179). -/
structure State.ReplyComplete (s : State) (p : PortIn) : Prop where
  phase : s.seqState = .awaitingReply ∨ (s.seqState = .sending ∧ p.txDone = true ∧ p.txCount = 5)
  whole : (s.capture p).rxcnt = 5

/-- The transport answers only what it was asked, once for each request, after the edge that made it (R265, duties 1 and 2). An
answer that comes late, after a reset has cut its command, is still the one owed (R262). -/
def answersInTurn (a : RunAccount) (p : PortIn) : Bool :=
  (!p.openDone || a.opensOwed) && (!p.txDone || a.writesOwed)

/-- The host holds an offered word until an edge accepts it (R264, duty H-a; R173). DESIGN CHOICE (log entry 17): the spec does
not say whether a reset ends this duty; as a reset edge accepts nothing, the word must be held across it. -/
def offerHeld (a : RunAccount) (p : PortIn) : Bool := !a.withdraws p

/-- The duties are held at each of the `n` edges that follow `s`, whose account so far is `a`. -/
def dutiesHeldFrom : Nat → State → RunAccount → Bool
  | 0, _, _ => true
  | n + 1, s, a =>
    answersInTurn a s.sample && offerHeld a s.sample &&
      match step s with
      | .next t => dutiesHeldFrom n t (a.edge s t)
      | .fault _ => true
      | .refused _ => true

/-- The duties that the ports of each edge can show are held over the `n` edges that follow `s` (93_implementation_defined.md
I12, I13: a claim about the source's behaviour admits only such runs; the step itself runs on any samples, log entry 17). -/
def dutiesHeld (n : Nat) (s : State) : Bool := dutiesHeldFrom n s (RunAccount.start s)

/-- Every open and every write asked for is answered in the end (R265, duties 1, 2 and 6): what has been asked `n` edges on has
been answered some number of edges on. A run whose transport never answers is a hang (R273; I11). -/
def State.requestsAnswered (s : State) : Prop :=
  ∀ n : Nat, ∃ m : Nat,
    (accountAfter n s).opensAsked ≤ (accountAfter m s).opensAnswered ∧
    (accountAfter n s).writesAsked ≤ (accountAfter m s).writesAnswered

/-- The transport keeps every duty of R265 that the ports of CATC can show, and the host holds its offers. -/
structure State.DutiesKept (s : State) : Prop where
  held : ∀ n, dutiesHeld n s = true
  answered : s.requestsAnswered

end Sys2Proof.Machine
end

