-- ==== Sys2Proof/Certificates/Slice0/Obligations.lean ====
section
/-! DEFINITION. The statements for the provers. Unless it says otherwise a statement about `exec` is about the edge that
accepts the command, on a state whose pulse registers have their defaults of that edge (43_sequencer.md R174); one about
`step` is about one clock edge, whose port sample is `p`. An equation with a record update is a frame as well: every element
it does not name is unchanged. CATC has no addressed memory (20_memory.md R60). -/

open Sys2Proof Sys2Proof.Machine

/-! ### Host commands at their acceptance edge -/

/-- R200, first part: CONNECT without a session asks the transport to open, with its operand as the speed. -/
def Obligations.ConnectOpensTransport : Prop :=
  ∀ (speed : Word32) (s : State), s.seqState = .disconnected →
    exec (.connect speed) s =
      .next { s with lastHop := 0x01, openReq := true, openSpeed := speed, seqState := .opening }

/-- R240: CONNECT with a session open is turned away and the session is untouched. -/
def Obligations.ConnectInSessionRejected : Prop :=
  ∀ (speed : Word32) (s : State), sessionOpen s.seqState = true →
    exec (.connect speed) s = .next { s with lastHop := 0x01, result := 8, doneR := true }

/-- R201: DISCONNECT in a session closes it at once. -/
def Obligations.DisconnectClosesSession : Prop :=
  ∀ (arg : Word32) (s : State), sessionOpen s.seqState = true →
    exec (.disconnect arg) s =
      .next { s with lastHop := 0x02, closeReq := true, seqState := .disconnected, firstQ := false,
                     result := 0, doneR := true }

/-- R202 to R205 with R111 to R114: the four commands without operand hand their packet to the transport. -/
def Obligations.LockAndPttDispatchPackets : Prop :=
  ∀ (arg : Word32) (s : State), sessionOpen s.seqState = true →
    exec (.lockOn arg) s =
      .next { s with lastHop := 0x03, txpkt := ⟨0, 0, 0, 0, 0x00⟩, txpktValid := true,
                     txStart := true, kind := .none, seqState := .sending } ∧
    exec (.lockOff arg) s =
      .next { s with lastHop := 0x04, txpkt := ⟨0, 0, 0, 0, 0x80⟩, txpktValid := true,
                     txStart := true, kind := .none, seqState := .sending } ∧
    exec (.pttOn arg) s =
      .next { s with lastHop := 0x05, txpkt := ⟨0, 0, 0, 0, 0x08⟩, txpktValid := true,
                     txStart := true, kind := .none, seqState := .sending } ∧
    exec (.pttOff arg) s =
      .next { s with lastHop := 0x06, txpkt := ⟨0, 0, 0, 0, 0x88⟩, txpktValid := true,
                     txStart := true, kind := .none, seqState := .sending }

/-- R206 with R116 and R132: the packet of SET_FREQ carries the eight low decimal digits of N, most significant first. Digit
`k` (from 0, the least significant) is `N / 10^k % 10`. -/
def Obligations.SetFreqDispatchesDigits : Prop :=
  ∀ (n : Word32) (s : State), sessionOpen s.seqState = true →
    ∃ f : FreqBytes,
      exec (.setFreq n) s =
      .next { s with lastHop := 0x07, txpkt := ⟨f.f0, f.f1, f.f2, f.f3, 0x01⟩,
                     txpktValid := true, txStart := true, kind := .none, seqState := .sending } ∧
      highNibble f.f0 = n.toNat / 10 ^ 7 % 10 ∧ lowNibble f.f0 = n.toNat / 10 ^ 6 % 10 ∧
      highNibble f.f1 = n.toNat / 10 ^ 5 % 10 ∧ lowNibble f.f1 = n.toNat / 10 ^ 4 % 10 ∧
      highNibble f.f2 = n.toNat / 10 ^ 3 % 10 ∧ lowNibble f.f2 = n.toNat / 10 ^ 2 % 10 ∧
      highNibble f.f3 = n.toNat / 10 % 10 ∧ lowNibble f.f3 = n.toNat % 10

/-- R207 with R115: SET_MODE with the name of mode `m` sends that mode's wire code. -/
def Obligations.SetModeDispatchesModeCode : Prop :=
  ∀ (m : Mode) (s : State), sessionOpen s.seqState = true →
    exec (.setMode (nameWord m)) s =
      .next { s with lastHop := 0x08, txpkt := ⟨modeCode s.cfg.modeCode m, 0, 0, 0, 0x07⟩, txpktValid := true,
                     txStart := true, kind := .none, seqState := .sending }

/-- R208 to R210 with R117 to R119 and R176: a query hands over its packet and arms the reply capture. -/
def Obligations.QueriesDispatchAndArmCapture : Prop :=
  ∀ (arg : Word32) (s : State), sessionOpen s.seqState = true →
    exec (.getFreqMode arg) s =
      .next { s with lastHop := 0x09, txpkt := ⟨0, 0, 0, 0, 0x03⟩, txpktValid := true,
                     txStart := true, kind := .fm, seqState := .sending, rxcnt := 0, rxbuf := ⟨0, 0, 0, 0, 0⟩ } ∧
    exec (.getRxStatus arg) s =
      .next { s with lastHop := 0x0A, txpkt := ⟨0, 0, 0, 0, 0xE7⟩, txpktValid := true,
                     txStart := true, kind := .rx, seqState := .sending, rxcnt := 0, rxbuf := ⟨0, 0, 0, 0, 0⟩ } ∧
    exec (.getTxStatus arg) s =
      .next { s with lastHop := 0x0B, txpkt := ⟨0, 0, 0, 0, 0xF7⟩, txpktValid := true,
                     txStart := true, kind := .tx, seqState := .sending, rxcnt := 0, rxbuf := ⟨0, 0, 0, 0, 0⟩ }

/-- R238: DISCONNECT and the nine packet commands without a session; SET_MODE with a known name. -/
def Obligations.CommandsWithoutSessionRejected : Prop :=
  ∀ (arg : Word32) (m : Mode) (s : State), s.seqState = .disconnected →
    exec (.disconnect arg) s = .next { s with lastHop := 0x02, result := 7, doneR := true } ∧
    exec (.lockOn arg) s = .next { s with lastHop := 0x03, result := 7, doneR := true } ∧
    exec (.lockOff arg) s = .next { s with lastHop := 0x04, result := 7, doneR := true } ∧
    exec (.pttOn arg) s = .next { s with lastHop := 0x05, result := 7, doneR := true } ∧
    exec (.pttOff arg) s = .next { s with lastHop := 0x06, result := 7, doneR := true } ∧
    exec (.setFreq arg) s = .next { s with lastHop := 0x07, result := 7, doneR := true } ∧
    exec (.setMode (nameWord m)) s = .next { s with lastHop := 0x08, result := 7, doneR := true } ∧
    exec (.getFreqMode arg) s = .next { s with lastHop := 0x09, result := 7, doneR := true } ∧
    exec (.getRxStatus arg) s = .next { s with lastHop := 0x0A, result := 7, doneR := true } ∧
    exec (.getTxStatus arg) s = .next { s with lastHop := 0x0B, result := 7, doneR := true }

/-- R236: a name that is none of the ten name words, in every ready state, connected or not. -/
def Obligations.UnknownModeRejected : Prop :=
  ∀ (name : Word32) (s : State), ready s.seqState = true → (∀ m : Mode, name ≠ nameWord m) →
    exec (.setMode name) s = .next { s with lastHop := 0x08, result := 5, doneR := true }

/-- R239 and R81: a word with a reserved host opcode, HOP = 0x00 or 0x0C to 0xFF, in every ready state. -/
def Obligations.ReservedOpcodesIllegal : Prop :=
  ∀ (hop : Byte) (arg : Word32) (s : State), ready s.seqState = true → (hop = 0x00 ∨ 0x0C ≤ hop.toNat) →
    exec (decodeHost (hostWord hop arg)) s = .next { s with lastHop := hop, result := 9, doneR := true }

/-- The six reserved rows of the opcode table, one by one: each completes with ILLEGAL_COMMAND and its own HOP (R211). -/
def Obligations.ReservedRowsComplete : Prop :=
  ∀ (arg : Word32) (s : State), ready s.seqState = true →
    exec (.reserved00 arg) s = .next { s with lastHop := 0x00, result := 9, doneR := true } ∧
    (∀ low : BitVec 2, exec (.reserved0C low arg) s =
      .next { s with lastHop := 0x0C ||| low.setWidth 8, result := 9, doneR := true }) ∧
    (∀ low : BitVec 4, exec (.reserved10 low arg) s =
      .next { s with lastHop := 0x10 ||| low.setWidth 8, result := 9, doneR := true }) ∧
    (∀ low : BitVec 5, exec (.reserved20 low arg) s =
      .next { s with lastHop := 0x20 ||| low.setWidth 8, result := 9, doneR := true }) ∧
    (∀ low : BitVec 6, exec (.reserved40 low arg) s =
      .next { s with lastHop := 0x40 ||| low.setWidth 8, result := 9, doneR := true }) ∧
    (∀ low : BitVec 7, exec (.reserved80 low arg) s =
      .next { s with lastHop := 0x80 ||| low.setWidth 8, result := 9, doneR := true })

/-- R73: the commands without operand do the same whatever ARG holds. -/
def Obligations.IgnoredArgHasNoEffect : Prop :=
  ∀ (a b : Word32) (hop : Byte) (s : State), hop ≠ 0x01 → hop ≠ 0x07 → hop ≠ 0x08 →
    exec (decodeHost (hostWord hop a)) s = exec (decodeHost (hostWord hop b)) s

/-! ### CAT packets -/

/-- R111 to R119 with R176: each CAT packet, executed in a session, is what the transport is handed. That a packet is
executed by `Dispatch` is the model's choice (log entry 9). -/
def Obligations.CatPacketsHandedToTransport : Prop :=
  ∀ s : State, sessionOpen s.seqState = true →
    exec .catLockOn s =
      .next { s with txpkt := ⟨0, 0, 0, 0, 0x00⟩, txpktValid := true, txStart := true,
                     kind := .none, seqState := .sending } ∧
    exec .catLockOff s =
      .next { s with txpkt := ⟨0, 0, 0, 0, 0x80⟩, txpktValid := true, txStart := true,
                     kind := .none, seqState := .sending } ∧
    exec .catPttOn s =
      .next { s with txpkt := ⟨0, 0, 0, 0, 0x08⟩, txpktValid := true, txStart := true,
                     kind := .none, seqState := .sending } ∧
    exec .catPttOff s =
      .next { s with txpkt := ⟨0, 0, 0, 0, 0x88⟩, txpktValid := true, txStart := true,
                     kind := .none, seqState := .sending } ∧
    (∀ f : FreqBytes, exec (.catSetFrequency f) s =
      .next { s with txpkt := ⟨f.f0, f.f1, f.f2, f.f3, 0x01⟩, txpktValid := true, txStart := true,
                     kind := .none, seqState := .sending }) ∧
    (∀ code : Byte, exec (.catSetMode code) s =
      .next { s with txpkt := ⟨code, 0, 0, 0, 0x07⟩, txpktValid := true, txStart := true,
                     kind := .none, seqState := .sending }) ∧
    exec .catGetFreqMode s =
      .next { s with txpkt := ⟨0, 0, 0, 0, 0x03⟩, txpktValid := true, txStart := true,
                     kind := .fm, seqState := .sending, rxcnt := 0, rxbuf := ⟨0, 0, 0, 0, 0⟩ } ∧
    exec .catGetRxStatus s =
      .next { s with txpkt := ⟨0, 0, 0, 0, 0xE7⟩, txpktValid := true, txStart := true,
                     kind := .rx, seqState := .sending, rxcnt := 0, rxbuf := ⟨0, 0, 0, 0, 0⟩ } ∧
    exec .catGetTxStatus s =
      .next { s with txpkt := ⟨0, 0, 0, 0, 0xF7⟩, txpktValid := true, txStart := true,
                     kind := .tx, seqState := .sending, rxcnt := 0, rxbuf := ⟨0, 0, 0, 0, 0⟩ }

/-- The nine CAT rows outside a ready session: without a session they end with NOT_CONNECTED, while BUSY nothing is started,
and in the unused sequencer state they fault (the model's choice, log entries 9 and 10, after R175, R173 and R21). -/
def Obligations.CatPacketsOutsideSession : Prop :=
  ∀ (i : Instr) (p : Packet) (s : State), encode i = .packet p →
    (s.seqState = .disconnected → exec i s = .next { s with result := 7, doneR := true }) ∧
    (busy s.seqState = true → exec i s = .next s) ∧
    (s.seqState = .unused7 → exec i s = .fault .unusedSeqState)

/-- Whenever a command word makes CATC start a write (R175, R176), the packet on `tx_data` decodes to one of the nine CAT
rows, and that row, executed after `last_hop` is written, is the whole of what the command did. What executing a CAT row
means is the model's choice (log entry 9). -/
def Obligations.DispatchedCommandIsItsPacket : Prop :=
  ∀ (w : HostWord) (s t : State), s.txStart = false → exec (decodeHost w) s = .next t → t.txStart = true →
    ∃ i, decodePacket t.txpkt = .ok i ∧ exec i { s with lastHop := hopOf w } = .next t

/-! ### The clock step -/

/-- R172, R173 and R174: an edge in a ready state with a word offered runs the instruction that the word decodes to, with the
sample used up and the pulse registers at their defaults. -/
def Obligations.StepRunsAcceptedCommand : Prop :=
  ∀ (s : State) (p : PortIn), s.Clocked p → ready s.seqState = true → p.cmdValid = true →
    step (s.seeing p) =
      exec (decodeHost p.cmdWord) { s with doneR := false, openReq := false, closeReq := false, txStart := false }

/-- R267: an edge in a ready state with no word offered lowers the pulses and changes nothing else; every status word is
what it was. -/
def Obligations.ReadyEdgeHoldsState : Prop :=
  ∀ (s : State) (p : PortIn), s.Clocked p → ready s.seqState = true → p.cmdValid = false →
    step (s.seeing p) = .next { s with doneR := false, openReq := false, closeReq := false, txStart := false } ∧
    ∀ a : BitVec 4,
      stsRead { s with doneR := false, openReq := false, closeReq := false, txStart := false } a = stsRead s a

/-- R173 and R188: while BUSY the command port has no effect at all. -/
def Obligations.BusyCommandPortIgnored : Prop :=
  ∀ (s : State) (p : PortIn) (v : Bool) (w : HostWord), busy s.seqState = true →
    step (s.seeing p) = step (s.seeing { p with cmdValid := v, cmdWord := w })

/-- R184: the transport's answer to an open. -/
def Obligations.OpenAnswerStartsOrEndsConnect : Prop :=
  ∀ (s : State) (p : PortIn), s.Clocked p → s.seqState = .opening →
    (p.openDone = true → p.openOk = true →
      step (s.seeing p) =
        .next { s with doneR := true, openReq := false, closeReq := false, txStart := false, result := 0,
                       seqState := .connected, firstQ := true, unresp := false,
                       fmValid := false, fmRaw := ⟨0, 0, 0, 0, 0⟩, rxValid := false, rxRaw := 0,
                       txValid := false, txRaw := 0 }) ∧
    (p.openDone = true → p.openOk = false →
      step (s.seeing p) =
        .next { s with doneR := true, openReq := false, closeReq := false, txStart := false, result := 1,
                       seqState := .disconnected }) ∧
    (p.openDone = false →
      step (s.seeing p) =
        .next { s with doneR := false, openReq := false, closeReq := false, txStart := false })

/-- R177, and who writes the reply buffer at an edge without reset: in SENDING and AWAITING_REPLY a byte captured goes behind
those held and changes no other, a byte not captured changes nothing; elsewhere only a query's dispatch writes the buffer,
and clears it. -/
def Obligations.ReplyBufferWriters : Prop :=
  ∀ (s t : State) (p : PortIn), p.rst = false → step (s.seeing p) = .next t →
    (s.seqState = .sending ∨ s.seqState = .awaitingReply →
      (s.kind ≠ .none ∧ p.rxValid = true ∧ s.rxcnt.toNat < 5 →
        t.rxcnt = s.rxcnt + 1 ∧ getByte t.rxbuf s.rxcnt.toNat = p.rxData ∧
        ∀ i, i ≠ s.rxcnt.toNat → getByte t.rxbuf i = getByte s.rxbuf i) ∧
      (¬(s.kind ≠ .none ∧ p.rxValid = true ∧ s.rxcnt.toNat < 5) → t.rxcnt = s.rxcnt ∧ t.rxbuf = s.rxbuf)) ∧
    (¬(s.seqState = .sending ∨ s.seqState = .awaitingReply) →
      (t.txStart = true ∧ t.kind ≠ .none → t.rxcnt = 0 ∧ t.rxbuf = ⟨0, 0, 0, 0, 0⟩) ∧
      (¬(t.txStart = true ∧ t.kind ≠ .none) → t.rxcnt = s.rxcnt ∧ t.rxbuf = s.rxbuf))

/-- R185: a byte that arrives where no capture stores it leaves no trace: at a reset edge, in a ready state, in OPENING, with
no query in flight, or with five bytes captured. -/
def Obligations.UncapturedByteLeavesNoTrace : Prop :=
  ∀ (s : State) (p : PortIn) (v : Bool) (d : Byte),
    p.rst = true ∨ ready s.seqState = true ∨ s.seqState = .opening ∨ s.kind = .none ∨ 5 ≤ s.rxcnt.toNat →
    step (s.seeing p) = step (s.seeing { p with rxValid := v, rxData := d })

/-- R186 and R56: transport answers outside their state are ignored, and so are `open_ok` and `tx_count` without their strobe;
the address on the status read port never matters. -/
def Obligations.UnreadInputsIgnored : Prop :=
  ∀ (s : State) (p : PortIn) (b ok : Bool) (c : BitVec 3) (a : BitVec 4),
    (s.seqState ≠ .opening → step (s.seeing p) = step (s.seeing { p with openDone := b, openOk := ok })) ∧
    (p.openDone = false → step (s.seeing p) = step (s.seeing { p with openOk := ok })) ∧
    (s.seqState ≠ .sending → step (s.seeing p) = step (s.seeing { p with txDone := b, txCount := c })) ∧
    (p.txDone = false → step (s.seeing p) = step (s.seeing { p with txCount := c })) ∧
    step (s.seeing p) = step (s.seeing { p with stsAddr := a })

/-- R178: in SENDING, a write answered with a count of 5 ends a pure command with OK. -/
def Obligations.PureCommandEndsAtWriteAnswer : Prop :=
  ∀ (s : State) (p : PortIn), s.Clocked p → s.seqState = .sending → s.kind = .none → p.txDone = true →
    p.txCount = 5 →
    step (s.seeing p) =
      .next { s with doneR := true, openReq := false, closeReq := false, txStart := false, result := 0,
                     seqState := restingState s.unresp }

/-- R178 and R233: any other count, 6 and 7 included, ends the command with SHORT_WRITE, even when five reply bytes are
captured; what a query captured so far stays in the buffer and the status record is unchanged. -/
def Obligations.ShortWriteEndsCommand : Prop :=
  ∀ (s : State) (p : PortIn), s.Clocked p → s.seqState = .sending → p.txDone = true → p.txCount ≠ 5 →
    step (s.seeing p) =
      .next { s with doneR := true, openReq := false, closeReq := false, txStart := false, result := 2,
                     seqState := restingState s.unresp, kind := .none,
                     firstQ := if s.kind = .none then s.firstQ else false,
                     rxbuf := (s.capture p).rxbuf, rxcnt := (s.capture p).rxcnt }

/-- R178: a query whose write is answered with a count of 5 while its reply is incomplete starts the reply timer. -/
def Obligations.QueryStartsReplyTimer : Prop :=
  ∀ (s : State) (p : PortIn), s.Clocked p → s.seqState = .sending → s.kind ≠ .none → p.txDone = true →
    p.txCount = 5 → (s.capture p).rxcnt ≠ 5 →
    step (s.seeing p) =
      .next { s with doneR := false, openReq := false, closeReq := false, txStart := false,
                     seqState := .awaitingReply, tmr := s.cfg.timeoutCycles,
                     rxbuf := (s.capture p).rxbuf, rxcnt := (s.capture p).rxcnt }

/-- R181 with R151: a whole reply to GET_FREQ_MODE commits all five bytes, whatever they are, and ends with OK. -/
def Obligations.FreqModeReplyCommits : Prop :=
  ∀ (s : State) (p : PortIn), s.Clocked p → s.kind = .fm → s.ReplyComplete p →
    step (s.seeing p) =
      .next { s with doneR := true, openReq := false, closeReq := false, txStart := false, result := 0,
                     seqState := restingState s.unresp, kind := .none, firstQ := false,
                     rxbuf := (s.capture p).rxbuf, rxcnt := 5,
                     fmValid := true, fmRaw := (s.capture p).rxbuf }

/-- R181 with R152 and R156: a whole reply to GET_RX_STATUS commits its first byte, 0xFF included. -/
def Obligations.RxStatusReplyCommits : Prop :=
  ∀ (s : State) (p : PortIn), s.Clocked p → s.kind = .rx → s.ReplyComplete p →
    step (s.seeing p) =
      .next { s with doneR := true, openReq := false, closeReq := false, txStart := false, result := 0,
                     seqState := restingState s.unresp, kind := .none, firstQ := false,
                     rxbuf := (s.capture p).rxbuf, rxcnt := 5,
                     rxValid := true, rxRaw := (s.capture p).rxbuf.b0 }

/-- R181 with R154 and R237: a whole reply to GET_TX_STATUS commits its first byte, but for the sentinel 0xFF, which ends with
NOT_AVAILABLE and writes no part of the record. -/
def Obligations.TxStatusReplyCommitsUnlessSentinel : Prop :=
  ∀ (s : State) (p : PortIn), s.Clocked p → s.kind = .tx → s.ReplyComplete p →
    ((s.capture p).rxbuf.b0 ≠ 0xFF →
      step (s.seeing p) =
        .next { s with doneR := true, openReq := false, closeReq := false, txStart := false, result := 0,
                       seqState := restingState s.unresp, kind := .none, firstQ := false,
                       rxbuf := (s.capture p).rxbuf, rxcnt := 5,
                       txValid := true, txRaw := (s.capture p).rxbuf.b0 }) ∧
    ((s.capture p).rxbuf.b0 = 0xFF →
      step (s.seeing p) =
        .next { s with doneR := true, openReq := false, closeReq := false, txStart := false, result := 6,
                       seqState := restingState s.unresp, kind := .none, firstQ := false,
                       rxbuf := (s.capture p).rxbuf, rxcnt := 5 })

/-- R180: in AWAITING_REPLY with the reply still incomplete, the timer counts down while it is above 1. -/
def Obligations.ReplyTimerCountsDown : Prop :=
  ∀ (s : State) (p : PortIn), s.Clocked p → s.seqState = .awaitingReply → (s.capture p).rxcnt ≠ 5 →
    2 ≤ s.tmr.toNat →
    step (s.seeing p) =
      .next { s with doneR := false, openReq := false, closeReq := false, txStart := false, tmr := s.tmr - 1,
                     rxbuf := (s.capture p).rxbuf, rxcnt := (s.capture p).rxcnt }

/-- R180, R183 and R234: the timer's end with no byte captured is NO_REPLY, and on the first probe it sets `unresp`. -/
def Obligations.TimeoutWithoutBytesIsNoReply : Prop :=
  ∀ (s : State) (p : PortIn), s.Clocked p → s.seqState = .awaitingReply → s.kind ≠ .none →
    (s.capture p).rxcnt = 0 → s.tmr.toNat ≤ 1 →
    step (s.seeing p) =
      .next { s with doneR := true, openReq := false, closeReq := false, txStart := false, result := 3,
                     unresp := s.unresp || s.firstQ, seqState := restingState (s.unresp || s.firstQ),
                     kind := .none, firstQ := false,
                     rxbuf := (s.capture p).rxbuf, rxcnt := (s.capture p).rxcnt }

/-- R180, R183 and R235: the timer's end with 1 to 4 bytes captured is SHORT_READ; it never sets `unresp`. -/
def Obligations.TimeoutWithSomeBytesIsShortRead : Prop :=
  ∀ (s : State) (p : PortIn), s.Clocked p → s.seqState = .awaitingReply → s.kind ≠ .none →
    1 ≤ (s.capture p).rxcnt.toNat → (s.capture p).rxcnt.toNat ≤ 4 → s.tmr.toNat ≤ 1 →
    step (s.seeing p) =
      .next { s with doneR := true, openReq := false, closeReq := false, txStart := false, result := 4,
                     seqState := restingState s.unresp, kind := .none, firstQ := false,
                     rxbuf := (s.capture p).rxbuf, rxcnt := (s.capture p).rxcnt }

/-- R26 and R183: `unresp` is set only by a first probe that got no reply, cleared only by a successful CONNECT or reset, and
while it is 1 every command that ends through the transport ends in UNRESPONSIVE. -/
def Obligations.UnrespIsSticky : Prop :=
  ∀ (s t : State) (p : PortIn), p.rst = false → step (s.seeing p) = .next t →
    (s.unresp = true → t.unresp = true ∨ (s.seqState = .opening ∧ p.openDone = true ∧ p.openOk = true)) ∧
    (s.unresp = false → t.unresp = true →
      s.seqState = .awaitingReply ∧ s.kind ≠ .none ∧ s.firstQ = true ∧ t.doneR = true ∧ t.result = 3) ∧
    (s.unresp = true → s.seqState = .sending ∨ s.seqState = .awaitingReply → t.doneR = true →
      t.seqState = .unresponsive)

/-- R31 and R246: an edge leaves the status record as it was, or empties it (a successful CONNECT), or a query ends there with
OK and commits one part. So a command that ends with any other code writes no part of it, and DISCONNECT none either. -/
def Obligations.StatusRecordWriters : Prop :=
  ∀ (s t : State) (p : PortIn), p.rst = false → step (s.seeing p) = .next t →
    SameRecord s t ∨
    (s.seqState = .opening ∧ p.openDone = true ∧ p.openOk = true ∧ EmptyRecord t) ∨
    (t.doneR = true ∧ t.result = 0 ∧
      ((s.kind = .fm ∧ SameRecord { s with fmValid := true, fmRaw := t.rxbuf } t) ∨
       (s.kind = .rx ∧ SameRecord { s with rxValid := true, rxRaw := t.rxbuf.b0 } t) ∨
       (s.kind = .tx ∧ SameRecord { s with txValid := true, txRaw := t.rxbuf.b0 } t ∧ t.rxbuf.b0 ≠ 0xFF)))

/-- R34, R63, R187 and R271: a request pulse comes only from a command accepted at that very edge: an open from CONNECT without
a session, a close from DISCONNECT in one, a write from another command in one. CATC starts nothing on its own. -/
def Obligations.RequestsComeFromCommands : Prop :=
  ∀ (s t : State) (p : PortIn), p.rst = false → step (s.seeing p) = .next t →
    (t.openReq = true → s.seqState = .disconnected ∧ t.seqState = .opening ∧ p.cmdValid = true ∧
      decodeHost p.cmdWord = .connect t.openSpeed) ∧
    (t.openReq = false → t.openSpeed = s.openSpeed) ∧
    (t.closeReq = true → sessionOpen s.seqState = true ∧ t.seqState = .disconnected ∧ p.cmdValid = true ∧
      hopOf p.cmdWord = 0x02) ∧
    (t.txStart = true → sessionOpen s.seqState = true ∧ t.seqState = .sending ∧ p.cmdValid = true ∧
      0x03 ≤ (hopOf p.cmdWord).toNat ∧ (hopOf p.cmdWord).toNat ≤ 0x0B) ∧
    (t.txStart = false → t.txpkt = s.txpkt ∧ t.txpktValid = s.txpktValid)

/-- R182 and R247: at an edge that accepts a word, or that works on a command in flight, the command either completes there,
with `done` set and a ready state, or is in flight after it, with `done` clear and BUSY = 1; other edges set no `done`. -/
def Obligations.DoneExactlyAtCompletion : Prop :=
  ∀ (s t : State) (p : PortIn), p.rst = false → step (s.seeing p) = .next t →
    (busy s.seqState = true ∨ p.cmdValid = true → t.doneR = !busy t.seqState) ∧
    (ready s.seqState = true → p.cmdValid = false → t.doneR = false)

/-- R25: every accepted word leaves its HOP in `last_hop`, and no rule reads it: with any other value in it, a step does the
same to everything else. -/
def Obligations.LastHopRecordedAndNeverRead : Prop :=
  (∀ (s t : State) (p : PortIn), p.rst = false → step (s.seeing p) = .next t →
    t.lastHop = if ready s.seqState && p.cmdValid then hopOf p.cmdWord else s.lastHop) ∧
  (∀ (s : State) (h : Byte),
    (∀ t, step s = .next t → ∃ h', step { s with lastHop := h } = .next { t with lastHop := h' }) ∧
    (∀ f, step s = .fault f → step { s with lastHop := h } = .fault f) ∧
    (∀ r, step s = .refused r → step { s with lastHop := h } = .refused r))

/-- R29: outside AWAITING_REPLY the value of `tmr` has no effect. -/
def Obligations.TimerUnreadOutsideAwaiting : Prop :=
  ∀ (s : State) (v : Word32), s.seqState ≠ .awaitingReply →
    (∀ t, step s = .next t → ∃ v', step { s with tmr := v } = .next { t with tmr := v' }) ∧
    (∀ f, step s = .fault f → step { s with tmr := v } = .fault f) ∧
    (∀ r, step s = .refused r → step { s with tmr := v } = .refused r)

/-! ### Reset, parameters and the two faults -/

/-- R260: an edge with `rst` = 1 gives every element its reset value, from every state (with well-formed parameters, R8) and
whatever else the ports carry; `cmd_ready` is 1 after it. -/
def Obligations.ResetEdgeSetsEveryElement : Prop :=
  ∀ (s : State) (p : PortIn), configWf s.cfg = true → p.rst = true →
    step (s.seeing p) =
      .next { seqState := .disconnected, unresp := false, firstQ := false, result := 15, lastHop := 0,
              kind := .none, tmr := 0, rxcnt := 0, rxbuf := ⟨0, 0, 0, 0, 0⟩, txpkt := ⟨0, 0, 0, 0, 0⟩,
              txpktValid := false, fmValid := false, fmRaw := ⟨0, 0, 0, 0, 0⟩, rxValid := false, rxRaw := 0,
              txValid := false, txRaw := 0, doneR := false, openReq := false, openSpeed := 0,
              closeReq := false, txStart := false, cfg := s.cfg, inputs := s.inputs } ∧
    ∀ (t : State) (a : BitVec 4), step (s.seeing p) = .next t → (outputs t a).cmdReady = true

/-- R23, R54, R170 and R171: in every state each output port shows its element, `cmd_ready` is 0 exactly in OPENING, SENDING and
AWAITING_REPLY, and `tx_data` has byte 0 in its top byte; and R261: the status space right after reset, for any parameters,
with the outputs there. -/
def Obligations.StatusSpaceAfterReset : Prop :=
  (∀ (s : State) (a : BitVec 4),
    ((outputs s a).cmdReady = false ↔
      s.seqState = .opening ∨ s.seqState = .sending ∨ s.seqState = .awaitingReply) ∧
    (outputs s a).done = s.doneR ∧ (outputs s a).result = s.result ∧
    (outputs s a).openReq = s.openReq ∧ (outputs s a).openSpeed = s.openSpeed ∧
    (outputs s a).closeReq = s.closeReq ∧ (outputs s a).txStart = s.txStart ∧
    (outputs s a).txData.extractLsb' 32 8 = s.txpkt.b0 ∧ (outputs s a).txData.extractLsb' 24 8 = s.txpkt.b1 ∧
    (outputs s a).txData.extractLsb' 16 8 = s.txpkt.b2 ∧ (outputs s a).txData.extractLsb' 8 8 = s.txpkt.b3 ∧
    (outputs s a).txData.extractLsb' 0 8 = s.txpkt.b4 ∧ (outputs s a).stsRdata = stsRead s a) ∧
  ∀ c : Config,
    stsRead { State.reset with cfg := c } 0 = 0x00000F00 ∧
    stsRead { State.reset with cfg := c } 9 = c.timeoutCycles ∧
    (∀ a : BitVec 4, a ≠ 0 → a ≠ 9 → stsRead { State.reset with cfg := c } a = 0) ∧
    ∀ a : BitVec 4,
      outputs { State.reset with cfg := c } a =
        { cmdReady := true, done := false, result := 15, openReq := false, openSpeed := 0, closeReq := false,
          txStart := false, txData := 0, stsRdata := stsRead { State.reset with cfg := c } a }

/-- R8: a set of parameters with TIMEOUT_CYCLES = 0, or with two equal mode codes, is refused. A clock frequency and a table
give parameters, with TIMEOUT_CYCLES = 3 * F_CLK_HZ, whenever that product is in 1 .. 2^32-1 and the table has no two equal
codes; otherwise they give none. -/
def Obligations.IllFormedParametersRefused : Prop :=
  (∀ s : State, s.cfg.timeoutCycles = 0 → step s = .refused .illFormedConfig) ∧
  (∀ (s : State) (m n : Mode), m ≠ n → modeCode s.cfg.modeCode m = modeCode s.cfg.modeCode n →
    step s = .refused .illFormedConfig) ∧
  ∀ (f : Nat) (t : ModeTable),
    (1 ≤ 3 * f ∧ 3 * f < 2 ^ 32 ∧ (∀ m n : Mode, modeCode t m = modeCode t n → m = n) →
      ∃ c, configOfClock f t = some c ∧ c.timeoutCycles.toNat = 3 * f ∧ c.modeCode = t ∧ configWf c = true) ∧
    (¬(1 ≤ 3 * f ∧ 3 * f < 2 ^ 32 ∧ ∀ m n : Mode, modeCode t m = modeCode t n → m = n) → configOfClock f t = none)

/-- R21, R172 and R241: an edge with `rst` = 0 that follows a `done` pulse with a code of 10 or more faults, and so does one
that meets `seq_state` = 7. The model's choices: the first fault is raised at the edge after the pulse (log entry 12); it
is the one named where both hold, and `rst` = 1 wins over both and resets (log entry 11). -/
def Obligations.UnusedCodesFault : Prop :=
  ∀ (s : State) (p : PortIn), configWf s.cfg = true →
    (p.rst = false → s.doneR = true → 10 ≤ s.result.toNat → step (s.seeing p) = .fault .unusedResultCode) ∧
    (p.rst = false → ¬(s.doneR = true ∧ 10 ≤ s.result.toNat) → s.seqState = .unused7 →
      step (s.seeing p) = .fault .unusedSeqState) ∧
    (p.rst = true →
      ∃ t, step (s.seeing p) = .next t ∧ t.seqState = .disconnected ∧ t.doneR = false ∧ t.result = 15)

/-! ### The status space and the parsers -/

/-- R35, R40, R41, R42 and R44: the words that no presence bit gates, field by field. STATE, BUSY and KIND are given state by state
with the numbers of R21, R23 and R28. -/
def Obligations.UngatedStatusWords : Prop :=
  ∀ s : State,
    ((s.seqState = .disconnected → (stsRead s 0).extractLsb' 0 3 = 0 ∧ (stsRead s 0).getLsbD 3 = false) ∧
      (s.seqState = .opening → (stsRead s 0).extractLsb' 0 3 = 1 ∧ (stsRead s 0).getLsbD 3 = true) ∧
      (s.seqState = .connected → (stsRead s 0).extractLsb' 0 3 = 2 ∧ (stsRead s 0).getLsbD 3 = false) ∧
      (s.seqState = .sending → (stsRead s 0).extractLsb' 0 3 = 3 ∧ (stsRead s 0).getLsbD 3 = true) ∧
      (s.seqState = .awaitingReply → (stsRead s 0).extractLsb' 0 3 = 4 ∧ (stsRead s 0).getLsbD 3 = true) ∧
      (s.seqState = .idle → (stsRead s 0).extractLsb' 0 3 = 5 ∧ (stsRead s 0).getLsbD 3 = false) ∧
      (s.seqState = .unresponsive → (stsRead s 0).extractLsb' 0 3 = 6 ∧ (stsRead s 0).getLsbD 3 = false) ∧
      (s.seqState = .unused7 → (stsRead s 0).extractLsb' 0 3 = 7 ∧ (stsRead s 0).getLsbD 3 = false)) ∧
    ((s.kind = .none → (stsRead s 0).extractLsb' 24 2 = 0) ∧ (s.kind = .fm → (stsRead s 0).extractLsb' 24 2 = 1) ∧
      (s.kind = .rx → (stsRead s 0).extractLsb' 24 2 = 2) ∧ (s.kind = .tx → (stsRead s 0).extractLsb' 24 2 = 3)) ∧
    ((stsRead s 0).extractLsb' 0 3 = seqBits s.seqState ∧ (stsRead s 0).getLsbD 3 = busy s.seqState ∧
      (stsRead s 0).getLsbD 4 = s.unresp ∧ (stsRead s 0).getLsbD 5 = s.firstQ ∧
      (stsRead s 0).extractLsb' 6 2 = 0 ∧ (stsRead s 0).extractLsb' 8 4 = s.result ∧
      (stsRead s 0).extractLsb' 12 4 = 0 ∧ (stsRead s 0).extractLsb' 16 8 = s.lastHop ∧
      (stsRead s 0).extractLsb' 24 2 = kindBits s.kind ∧ (stsRead s 0).extractLsb' 26 6 = 0) ∧
    ((stsRead s 5).extractLsb' 24 8 = s.txpkt.b0 ∧ (stsRead s 5).extractLsb' 16 8 = s.txpkt.b1 ∧
      (stsRead s 5).extractLsb' 8 8 = s.txpkt.b2 ∧ (stsRead s 5).extractLsb' 0 8 = s.txpkt.b3 ∧
      (stsRead s 6).extractLsb' 0 8 = s.txpkt.b4 ∧ (stsRead s 6).extractLsb' 8 23 = 0 ∧
      (stsRead s 6).getLsbD 31 = s.txpktValid) ∧
    ((stsRead s 7).extractLsb' 24 8 = s.rxbuf.b0 ∧ (stsRead s 7).extractLsb' 16 8 = s.rxbuf.b1 ∧
      (stsRead s 7).extractLsb' 8 8 = s.rxbuf.b2 ∧ (stsRead s 7).extractLsb' 0 8 = s.rxbuf.b3 ∧
      (stsRead s 8).extractLsb' 0 8 = s.rxbuf.b4 ∧ (stsRead s 8).extractLsb' 8 3 = s.rxcnt ∧
      (stsRead s 8).extractLsb' 11 21 = 0) ∧
    stsRead s 9 = s.cfg.timeoutCycles ∧
    ∀ a : BitVec 4, 11 ≤ a.toNat → stsRead s a = 0

/-- R36, R37 and R43: the words of the frequency/mode part, field by field, with the numbers of the modes (R9); all zeros while
the part is absent. FREQ_N is the weighted sum of R134 also where a nibble is above 9, and NONBCD then is 1 (log entry 13). -/
def Obligations.FreqModeStatusWords : Prop :=
  ∀ s : State,
    (s.fmValid = false → stsRead s 1 = 0 ∧ stsRead s 2 = 0 ∧ stsRead s 10 = 0) ∧
    (s.fmValid = true →
      ((stsRead s 1).extractLsb' 0 28).toNat =
        10 ^ 6 * (10 * (s.fmRaw.b0.toNat / 16) + s.fmRaw.b0.toNat % 16) +
        10 ^ 4 * (10 * (s.fmRaw.b1.toNat / 16) + s.fmRaw.b1.toNat % 16) +
        10 ^ 2 * (10 * (s.fmRaw.b2.toNat / 16) + s.fmRaw.b2.toNat % 16) +
        (10 * (s.fmRaw.b3.toNat / 16) + s.fmRaw.b3.toNat % 16) ∧
      (stsRead s 1).extractLsb' 28 2 = 0 ∧
      ((stsRead s 1).getLsbD 30 = true ↔
        ∃ b ∈ [s.fmRaw.b0, s.fmRaw.b1, s.fmRaw.b2, s.fmRaw.b3], 9 < b.toNat / 16 ∨ 9 < b.toNat % 16) ∧
      (stsRead s 1).getLsbD 31 = true ∧
      (stsRead s 2).extractLsb' 0 8 = s.fmRaw.b4 ∧
      (stsRead s 2).extractLsb' 8 4 = modeIndex (modeByCode s.cfg.modeCode s.fmRaw.b4) ∧
      (stsRead s 2).extractLsb' 12 19 = 0 ∧ (stsRead s 2).getLsbD 31 = true ∧
      (stsRead s 10).extractLsb' 24 8 = s.fmRaw.b0 ∧ (stsRead s 10).extractLsb' 16 8 = s.fmRaw.b1 ∧
      (stsRead s 10).extractLsb' 8 8 = s.fmRaw.b2 ∧ (stsRead s 10).extractLsb' 0 8 = s.fmRaw.b3) ∧
    (s.fmValid = true → configWf s.cfg = true →
      (s.fmRaw.b4 = s.cfg.modeCode.lsb → (stsRead s 2).extractLsb' 8 4 = 0) ∧
      (s.fmRaw.b4 = s.cfg.modeCode.usb → (stsRead s 2).extractLsb' 8 4 = 1) ∧
      (s.fmRaw.b4 = s.cfg.modeCode.cw → (stsRead s 2).extractLsb' 8 4 = 2) ∧
      (s.fmRaw.b4 = s.cfg.modeCode.cwr → (stsRead s 2).extractLsb' 8 4 = 3) ∧
      (s.fmRaw.b4 = s.cfg.modeCode.am → (stsRead s 2).extractLsb' 8 4 = 4) ∧
      (s.fmRaw.b4 = s.cfg.modeCode.wfm → (stsRead s 2).extractLsb' 8 4 = 5) ∧
      (s.fmRaw.b4 = s.cfg.modeCode.fm → (stsRead s 2).extractLsb' 8 4 = 6) ∧
      (s.fmRaw.b4 = s.cfg.modeCode.fmn → (stsRead s 2).extractLsb' 8 4 = 7) ∧
      (s.fmRaw.b4 = s.cfg.modeCode.dig → (stsRead s 2).extractLsb' 8 4 = 8) ∧
      (s.fmRaw.b4 = s.cfg.modeCode.pkt → (stsRead s 2).extractLsb' 8 4 = 9) ∧
      ((∀ m : Mode, s.fmRaw.b4 ≠ modeCode s.cfg.modeCode m) → (stsRead s 2).extractLsb' 8 4 = 15))

/-- R38 with R152 and R155 to R157: the RX status word, from the bits of `rx_raw`; bit 5 set makes CENTERED 0. -/
def Obligations.RxStatusWord : Prop :=
  ∀ s : State,
    (s.rxValid = false → stsRead s 3 = 0) ∧
    (s.rxValid = true →
      (stsRead s 3).extractLsb' 0 8 = s.rxRaw ∧ (stsRead s 3).extractLsb' 8 4 = s.rxRaw.extractLsb' 0 4 ∧
      (stsRead s 3).getLsbD 12 = !s.rxRaw.getLsbD 5 ∧ (stsRead s 3).getLsbD 13 = s.rxRaw.getLsbD 6 ∧
      (stsRead s 3).getLsbD 14 = s.rxRaw.getLsbD 7 ∧ (stsRead s 3).extractLsb' 15 16 = 0 ∧
      (stsRead s 3).getLsbD 31 = true)

/-- R39 with R153 and R157: the TX status word, from the bits of `tx_raw`; bit 5 set makes SPLIT 0. -/
def Obligations.TxStatusWord : Prop :=
  ∀ s : State,
    (s.txValid = false → stsRead s 4 = 0) ∧
    (s.txValid = true →
      (stsRead s 4).extractLsb' 0 8 = s.txRaw ∧ (stsRead s 4).extractLsb' 8 4 = s.txRaw.extractLsb' 0 4 ∧
      (stsRead s 4).getLsbD 12 = !s.txRaw.getLsbD 5 ∧ (stsRead s 4).getLsbD 13 = s.txRaw.getLsbD 6 ∧
      (stsRead s 4).getLsbD 14 = s.txRaw.getLsbD 7 ∧ (stsRead s 4).extractLsb' 15 16 = 0 ∧
      (stsRead s 4).getLsbD 31 = true)

/-! ### The frequency codec and the mode table -/

/-- R136: what is encoded decodes to N modulo 10^8, with NONBCD clear. -/
def Obligations.FrequencyRoundTrip : Prop :=
  ∀ n : Word32, decFreq (encFreq n) = (n.toNat % 10 ^ 8, false)

/-- R137: four BCD bytes are the encoding of what they decode to, and bytes with another nibble are no encoding. -/
def Obligations.FrequencyReverseRoundTrip : Prop :=
  ∀ f : FreqBytes,
    (nonBcd f = false → encFreq (BitVec.ofNat 32 (decFreqValue f)) = f) ∧
    (nonBcd f = true → ∀ n : Word32, encFreq n ≠ f)

/-- R123: for every injective MODE_CODE, the two lookups give back every mode, with the indices and the name words of R9; R121 and
R122: and nothing else is found. -/
def Obligations.ModeTableRoundTrip : Prop :=
  ∀ t : ModeTable, modeTableInjective t = true →
    (∀ m : Mode, modeByCode t (modeCode t m) = some m ∧ modeByName (nameWord m) = some m) ∧
    (modeIndex (modeByCode t t.lsb) = 0 ∧ modeIndex (modeByCode t t.usb) = 1 ∧ modeIndex (modeByCode t t.cw) = 2 ∧
      modeIndex (modeByCode t t.cwr) = 3 ∧ modeIndex (modeByCode t t.am) = 4 ∧ modeIndex (modeByCode t t.wfm) = 5 ∧
      modeIndex (modeByCode t t.fm) = 6 ∧ modeIndex (modeByCode t t.fmn) = 7 ∧ modeIndex (modeByCode t t.dig) = 8 ∧
      modeIndex (modeByCode t t.pkt) = 9) ∧
    (modeIndex (modeByName 0x4C534200) = 0 ∧ modeIndex (modeByName 0x55534200) = 1 ∧
      modeIndex (modeByName 0x43570000) = 2 ∧ modeIndex (modeByName 0x43575200) = 3 ∧
      modeIndex (modeByName 0x414D0000) = 4 ∧ modeIndex (modeByName 0x57464D00) = 5 ∧
      modeIndex (modeByName 0x464D0000) = 6 ∧ modeIndex (modeByName 0x464D4E00) = 7 ∧
      modeIndex (modeByName 0x44494700) = 8 ∧ modeIndex (modeByName 0x504B5400) = 9) ∧
    (∀ c : Byte, c ∉ [t.lsb, t.usb, t.cw, t.cwr, t.am, t.wfm, t.fm, t.fmn, t.dig, t.pkt] →
      modeIndex (modeByCode t c) = 15) ∧
    (∀ w : Word32, w ∉ [0x4C534200#32, 0x55534200#32, 0x43570000#32, 0x43575200#32, 0x414D0000#32, 0x57464D00#32, 0x464D0000#32, 0x464D4E00#32,
        0x44494700#32, 0x504B5400#32] → modeIndex (modeByName w) = 15)

/-! ### Encoding -/

/-- Decoding what is encoded gives the instruction back, with every operand, for every well-formed instruction of both
encodings (R70 to R76, R80, R81). -/
def Obligations.DecodeOfEncode : Prop :=
  ∀ i : Instr, i.wf = true → decode (encode i) = .ok i

/-- Whatever decodes is a well-formed instruction, and it is the only code of that instruction: no bit is dropped.
Which packets are refused is the model's choice (log entry 14). -/
def Obligations.EncodeOfDecode : Prop :=
  ∀ (c : Code) (i : Instr), decode c = .ok i → i.wf = true ∧ encode i = c

/-- R71, R80 and R81: HOP alone selects the entry of the host opcode map. -/
def Obligations.HopSelectsCommand : Prop :=
  ∀ arg : Word32,
    decodeHost (hostWord 0x01 arg) = .connect arg ∧ decodeHost (hostWord 0x02 arg) = .disconnect arg ∧
    decodeHost (hostWord 0x03 arg) = .lockOn arg ∧ decodeHost (hostWord 0x04 arg) = .lockOff arg ∧
    decodeHost (hostWord 0x05 arg) = .pttOn arg ∧ decodeHost (hostWord 0x06 arg) = .pttOff arg ∧
    decodeHost (hostWord 0x07 arg) = .setFreq arg ∧ decodeHost (hostWord 0x08 arg) = .setMode arg ∧
    decodeHost (hostWord 0x09 arg) = .getFreqMode arg ∧ decodeHost (hostWord 0x0A arg) = .getRxStatus arg ∧
    decodeHost (hostWord 0x0B arg) = .getTxStatus arg ∧ decodeHost (hostWord 0x00 arg) = .reserved00 arg ∧
    ∀ hop : Byte,
      (0x0C ≤ hop.toNat → hop.toNat ≤ 0x0F →
        decodeHost (hostWord hop arg) = .reserved0C (BitVec.ofNat 2 (hop.toNat - 0x0C)) arg) ∧
      (0x10 ≤ hop.toNat → hop.toNat ≤ 0x1F →
        decodeHost (hostWord hop arg) = .reserved10 (BitVec.ofNat 4 (hop.toNat - 0x10)) arg) ∧
      (0x20 ≤ hop.toNat → hop.toNat ≤ 0x3F →
        decodeHost (hostWord hop arg) = .reserved20 (BitVec.ofNat 5 (hop.toNat - 0x20)) arg) ∧
      (0x40 ≤ hop.toNat → hop.toNat ≤ 0x7F →
        decodeHost (hostWord hop arg) = .reserved40 (BitVec.ofNat 6 (hop.toNat - 0x40)) arg) ∧
      (0x80 ≤ hop.toNat →
        decodeHost (hostWord hop arg) = .reserved80 (BitVec.ofNat 7 (hop.toNat - 0x80)) arg)

/-- Words and packets written out from R80, R76 and 95_test_vectors.md decode to what they stand for. The last clause, that a
packet with the unlisted opcode 0x55 is refused, is the model's choice (log entry 14): the spec describes no receiver of command
packets. -/
def Obligations.WrittenOutWordsDecode : Prop :=
  decodeHost 0x0000960001 = .connect 38400 ∧ decodeHost 0x0000000002 = .disconnect 0 ∧
  decodeHost 0xDEADBEEF03 = .lockOn 0xDEADBEEF ∧ decodeHost 0x0015C05C07 = .setFreq 1425500 ∧
  decodeHost 0x5553420008 = .setMode 0x55534200 ∧ decodeHost 0x000000000A = .getRxStatus 0 ∧
  decodeHost 0x00000000FF = .reserved80 0x7F 0 ∧
  decodePacket ⟨0x01, 0x42, 0x55, 0x00, 0x01⟩ = .ok (.catSetFrequency ⟨0x01, 0x42, 0x55, 0x00⟩) ∧
  decodePacket ⟨0x00, 0x00, 0x00, 0x00, 0xF7⟩ = .ok .catGetTxStatus ∧
  decodePacket ⟨0x88, 0x00, 0x00, 0x00, 0x07⟩ = .ok (.catSetMode 0x88) ∧
  decodePacket ⟨0x00, 0x00, 0x00, 0x00, 0x55⟩ = .error (.unknownOpcode 0x55)

/-- R88 and R89: lines of 95_test_vectors.md 2.1 and the words or refusals it gives them. -/
def Obligations.AssembledLines : Prop :=
  Asm.assembleLine "SET_FREQ 1425500".toList = .ok (some (decodeHost 0x0015C05C07)) ∧
  Asm.assembleLine "SET_FREQ_MHZ 14.255".toList = .ok (some (decodeHost 0x0015C05C07)) ∧
  Asm.assembleLine "SET_MODE \"USB\"".toList = .ok (some (decodeHost 0x5553420008)) ∧
  Asm.assembleLine "SET_MODE_NAME \"PACKET\"".toList = .ok (some (decodeHost 0xFFFFFFFF08)) ∧
  Asm.assembleLine "LOCK 0".toList = .ok (some (decodeHost 0x0000000004)) ∧
  Asm.assembleLine "SET_FREQ_MHZ 14.255001".toList = .error .badFrequency ∧
  Asm.assembleLine "SET_FREQ_MHZ 1000".toList = .error .badFrequency

/-! ### Invariants, progress and whole exchanges -/

/-- The reset state meets the invariant, whatever the parameters and whatever the ports will carry. -/
def Obligations.ResetMeetsInvariant : Prop :=
  ∀ (c : Config) (l : List PortIn), State.Inv { State.reset with cfg := c, inputs := l }

/-- Every clock edge keeps the invariant: the sequencer state stays legal and agrees with the session flags, no unused result
code appears, requests are outstanding only in their states, the reply buffer and the timer stay in range, the packet handed
over is one of the nine, the status record's absent parts stay empty and the TX sentinel is never committed. -/
def Obligations.EveryEdgeKeepsInvariant : Prop :=
  ∀ s t : State, s.Inv → step s = .next t → t.Inv

/-- A state that meets the invariant never stops: with well-formed parameters its edge gives a next state, which keeps the
parameters and uses up one port sample. Where the parameters and the port samples are kept is the model's choice (log entries 1
and 5). -/
def Obligations.GoodStatesNeverStop : Prop :=
  ∀ s : State, s.Inv → configWf s.cfg = true →
    ∃ t, step s = .next t ∧ t.cfg = s.cfg ∧ t.inputs = s.inputs.tail

/-- Under every environment, for ever so many edges, a run from reset neither faults nor is refused, and every state that it
reaches meets the invariant. -/
def Obligations.RunsFromResetAreSafe : Prop :=
  ∀ (c : Config) (l : List PortIn) (n : Nat), configWf c = true →
    ∃ t : State, Host.Core.run Sys2Proof.core n { State.reset with cfg := c, inputs := l } = .next t ∧ t.Inv

/-- R180 and R272: from AWAITING_REPLY with `tmr` = n + 1 and no byte arriving, the query is still waiting after each of the
first n edges, and ends at edge n + 1 with NO_REPLY or SHORT_READ, in a ready state, its status record unchanged. Where the
samples run out the ports are quiet (the model's choice, log entry 6). -/
def Obligations.SilentQueryEndsAtTimeout : Prop :=
  ∀ (n : Nat) (s : State), configWf s.cfg = true → s.seqState = .awaitingReply → s.kind ≠ .none →
    s.doneR = false → s.rxcnt.toNat < 5 → s.tmr.toNat = n + 1 →
    (∀ p ∈ s.inputs.take (n + 1), p.rst = false ∧ p.rxValid = false) →
    (∀ k, k ≤ n → ∃ t : State, Host.Core.run Sys2Proof.core k s = .next t ∧
      t.seqState = .awaitingReply ∧ t.doneR = false ∧ t.tmr.toNat = n + 1 - k) ∧
    ∃ t : State, Host.Core.run Sys2Proof.core (n + 1) s = .next t ∧ ready t.seqState = true ∧ t.doneR = true ∧
      t.result = (if s.rxcnt = 0 then 3 else 4) ∧ t.rxbuf = s.rxbuf ∧ t.rxcnt = s.rxcnt ∧ SameRecord s t

/-- R189 and R190: an open or a write that the transport never answers is waited for, for any number of edges, and such a run
has not ended (R273). Where the samples run out the ports are quiet (the model's choice, log entry 6). -/
def Obligations.UnansweredRequestWaits : Prop :=
  ∀ (n : Nat) (s : State), configWf s.cfg = true → s.doneR = false →
    (s.seqState = .opening → (∀ p ∈ s.inputs.take n, p.rst = false ∧ p.openDone = false) →
      (∃ t : State, Host.Core.run Sys2Proof.core n s = .next t ∧ t.seqState = .opening ∧ t.doneR = false) ∧
      s.runEnded n = false) ∧
    (s.seqState = .sending → (∀ p ∈ s.inputs.take n, p.rst = false ∧ p.txDone = false) →
      (∃ t : State, Host.Core.run Sys2Proof.core n s = .next t ∧ t.seqState = .sending ∧ t.doneR = false ∧
        t.txpkt = s.txpkt ∧ t.kind = s.kind) ∧ s.runEnded n = false)

/-- R208 and R272, one whole exchange: GET_FREQ_MODE accepted in a session, its write answered with 5 at the next edge, and
five bytes on the five edges after that. The query ends with OK at the edge of the fifth byte, even when that is the last edge
of the reply window, and the frequency and mode words show exactly those bytes; FREQ_N of bytes with a nibble above 9 is the sum
of R134 (log entry 13). -/
def Obligations.FreqModeQueryDeliversReply : Prop :=
  ∀ (s : State) (c w r0 r1 r2 r3 r4 : PortIn) (rest : List PortIn),
    s.inputs = c :: w :: r0 :: r1 :: r2 :: r3 :: r4 :: rest →
    configWf s.cfg = true → (s.doneR = true → s.result.toNat ≤ 9) → sessionOpen s.seqState = true →
    5 ≤ s.cfg.timeoutCycles.toNat →
    (∀ p ∈ [c, w, r0, r1, r2, r3, r4], p.rst = false) →
    c.cmdValid = true → hopOf c.cmdWord = 0x09 →
    w.txDone = true → w.txCount = 5 → w.rxValid = false →
    (∀ p ∈ [r0, r1, r2, r3, r4], p.rxValid = true) →
    ∃ t : State, Host.Core.run Sys2Proof.core 7 s = .next t ∧
      t.doneR = true ∧ t.result = 0 ∧ t.seqState = restingState s.unresp ∧ t.firstQ = false ∧
      t.txpkt = ⟨0, 0, 0, 0, 0x03⟩ ∧ t.inputs = rest ∧
      t.fmValid = true ∧ t.fmRaw = ⟨r0.rxData, r1.rxData, r2.rxData, r3.rxData, r4.rxData⟩ ∧
      ((stsRead t 1).extractLsb' 0 28).toNat =
        decFreqValue ⟨r0.rxData, r1.rxData, r2.rxData, r3.rxData⟩ ∧
      (stsRead t 2).extractLsb' 0 8 = r4.rxData ∧
      t.rxValid = s.rxValid ∧ t.rxRaw = s.rxRaw ∧ t.txValid = s.txValid ∧ t.txRaw = s.txRaw
end

