-- ==== Sys2Proof/Laws/Encoding.lean ====
section
/-! SUPPORT. The small lemmas of the two encodings and of the frequency codec: the fields of a host word, the nibbles of a
BCD byte. -/
namespace Sys2Proof

@[simp] theorem hopOf_hostWord (hop : Byte) (arg : Word32) : hopOf (hostWord hop arg) = hop := by
  apply BitVec.eq_of_getLsbD_eq
  intro i hi
  simp only [hopOf, hostWord, BitVec.getLsbD_extractLsb', BitVec.getLsbD_append]
  simp [hi]

@[simp] theorem argOf_hostWord (hop : Byte) (arg : Word32) : argOf (hostWord hop arg) = arg := by
  apply BitVec.eq_of_getLsbD_eq
  intro i hi
  simp only [argOf, hostWord, BitVec.getLsbD_extractLsb', BitVec.getLsbD_append]
  simp [hi]

/-- A host word is its two fields. -/
theorem hostWord_of_fields (w : HostWord) : hostWord (hopOf w) (argOf w) = w := by
  apply BitVec.eq_of_getLsbD_eq
  intro i hi
  simp only [hostWord, hopOf, argOf, BitVec.getLsbD_append, BitVec.getLsbD_extractLsb']
  split
  · simp [*]
  · have h : 8 + (i - 8) = i := by omega
    have h' : i - 8 < 32 := by omega
    simp [h, h']

@[simp] theorem decodeHost_hostWord (hop : Byte) (arg : Word32) :
    decodeHost (hostWord hop arg) = decodeHop hop arg := by
  simp [decodeHost]

/-- Bits above a split of an 8-bit value, then those below, are the value. -/
theorem byte_split (h l : Nat) (hl : h + l = 8) (b : Byte) :
    (b.extractLsb' l h ++ b.extractLsb' 0 l).cast hl = b := by
  apply BitVec.eq_of_getLsbD_eq
  intro i hi
  simp only [BitVec.getLsbD_cast, BitVec.getLsbD_append, BitVec.getLsbD_extractLsb']
  split
  · simp [*]
  · have e : l + (i - l) = i := by omega
    have e' : i - l < h := by omega
    simp [e, e']

/-- A field above a split is a field of the upper part. -/
theorem field_above {v w : Nat} (x : BitVec v) (y : BitVec w) (lo len : Nat) (h : w ≤ lo) :
    (x ++ y).extractLsb' lo len = x.extractLsb' (lo - w) len := by
  apply BitVec.eq_of_getLsbD_eq
  intro i hi
  simp only [BitVec.getLsbD_extractLsb', BitVec.getLsbD_append]
  rw [if_neg (by omega)]; congr 2; omega

/-- A field below a split is a field of the lower part. -/
theorem field_below {v w : Nat} (x : BitVec v) (y : BitVec w) (lo len : Nat) (h : lo + len ≤ w) :
    (x ++ y).extractLsb' lo len = y.extractLsb' lo len := by
  apply BitVec.eq_of_getLsbD_eq
  intro i hi
  simp only [BitVec.getLsbD_extractLsb', BitVec.getLsbD_append]
  rw [if_pos (by omega)]

/-- A field as wide as its value is the value. -/
theorem field_all {w : Nat} (x : BitVec w) : x.extractLsb' 0 w = x := by
  apply BitVec.eq_of_getLsbD_eq
  intro i hi
  simp [hi]

/-- A bit above a split is a bit of the upper part. -/
theorem bit_above {v w : Nat} (x : BitVec v) (y : BitVec w) (i : Nat) (h : w ≤ i) :
    (x ++ y).getLsbD i = x.getLsbD (i - w) := by
  rw [BitVec.getLsbD_append, if_neg (by omega)]

/-- A bit below a split is a bit of the lower part. -/
theorem bit_below {v w : Nat} (x : BitVec v) (y : BitVec w) (i : Nat) (h : i < w) :
    (x ++ y).getLsbD i = y.getLsbD i := by
  rw [BitVec.getLsbD_append, if_pos h]

/-- A field of a byte, as arithmetic. -/
theorem extract_eq_iff (l h : Nat) (b : Byte) (c : BitVec h) :
    b.extractLsb' l h = c ↔ b.toNat / 2 ^ l % 2 ^ h = c.toNat := by
  rw [← BitVec.toNat_inj, BitVec.extractLsb'_toNat, Nat.shiftRight_eq_div_pow]

namespace Machine

theorem highNibble_eq (b : Byte) : highNibble b = b.toNat / 16 := by
  have := b.isLt
  simp only [highNibble, BitVec.extractLsb'_toNat, Nat.shiftRight_eq_div_pow]
  omega

theorem lowNibble_eq (b : Byte) : lowNibble b = b.toNat % 16 := by
  simp [lowNibble, BitVec.extractLsb'_toNat]

theorem bcd_toNat (g : Nat) (h : g < 100) : (bcd g).toNat = g / 10 * 16 + g % 10 := by
  have h1 : g / 10 < 2 ^ 4 := by omega
  have h2 : g % 10 < 2 ^ 4 := by omega
  rw [bcd, BitVec.toNat_append, BitVec.toNat_ofNat, BitVec.toNat_ofNat, Nat.mod_eq_of_lt h1, Nat.mod_eq_of_lt h2,
    ← Nat.shiftLeft_add_eq_or_of_lt h2, Nat.shiftLeft_eq]

@[simp] theorem highNibble_bcd (g : Nat) (h : g < 100) : highNibble (bcd g) = g / 10 := by
  rw [highNibble_eq, bcd_toNat g h]; omega

@[simp] theorem lowNibble_bcd (g : Nat) (h : g < 100) : lowNibble (bcd g) = g % 10 := by
  rw [lowNibble_eq, bcd_toNat g h]; omega

@[simp] theorem byteWeight_bcd (g : Nat) (h : g < 100) : byteWeight (bcd g) = g := by
  rw [byteWeight, highNibble_bcd g h, lowNibble_bcd g h]; omega

theorem byteNonBcd_bcd (g : Nat) (h : g < 100) : byteNonBcd (bcd g) = false := by
  simp [byteNonBcd, h]; omega

/-- A BCD byte is the encoding of its weight (41_freq_codec.md R131). -/
theorem bcd_byteWeight (b : Byte) (h : byteNonBcd b = false) : byteWeight b < 100 ∧ bcd (byteWeight b) = b := by
  simp only [byteNonBcd, Bool.or_eq_false_iff, decide_eq_false_iff_not, Nat.not_lt] at h
  have hw : byteWeight b < 100 := by unfold byteWeight; omega
  refine ⟨hw, BitVec.eq_of_toNat_eq ?_⟩
  rw [bcd_toNat _ hw]
  unfold byteWeight
  rw [highNibble_eq, lowNibble_eq] at *
  omega

theorem freqGroup_lt (m k : Nat) : freqGroup m k < 100 := Nat.mod_lt _ (by decide)

/-- Every encoded frequency is BCD. -/
@[simp] theorem nonBcd_encFreq (n : Word32) : nonBcd (encFreq n) = false := by
  simp [nonBcd, encFreq, byteNonBcd_bcd, freqGroup_lt]

end Machine

end Sys2Proof
end

