-- ==== Sys2Proof/Laws/State.lean ====
section
/-! SUPPORT. One lemma per field per update of State, each true by rfl, so that no proof unfolds a record update; and the
same for `capture`, which writes only the reply buffer. -/
namespace Sys2Proof.Machine

section
variable (s : State)

@[simp] theorem State.pulseDefaults_seqState : s.pulseDefaults.seqState = s.seqState := rfl
@[simp] theorem State.pulseDefaults_unresp : s.pulseDefaults.unresp = s.unresp := rfl
@[simp] theorem State.pulseDefaults_firstQ : s.pulseDefaults.firstQ = s.firstQ := rfl
@[simp] theorem State.pulseDefaults_result : s.pulseDefaults.result = s.result := rfl
@[simp] theorem State.pulseDefaults_lastHop : s.pulseDefaults.lastHop = s.lastHop := rfl
@[simp] theorem State.pulseDefaults_kind : s.pulseDefaults.kind = s.kind := rfl
@[simp] theorem State.pulseDefaults_tmr : s.pulseDefaults.tmr = s.tmr := rfl
@[simp] theorem State.pulseDefaults_rxcnt : s.pulseDefaults.rxcnt = s.rxcnt := rfl
@[simp] theorem State.pulseDefaults_rxbuf : s.pulseDefaults.rxbuf = s.rxbuf := rfl
@[simp] theorem State.pulseDefaults_txpkt : s.pulseDefaults.txpkt = s.txpkt := rfl
@[simp] theorem State.pulseDefaults_txpktValid : s.pulseDefaults.txpktValid = s.txpktValid := rfl
@[simp] theorem State.pulseDefaults_fmValid : s.pulseDefaults.fmValid = s.fmValid := rfl
@[simp] theorem State.pulseDefaults_fmRaw : s.pulseDefaults.fmRaw = s.fmRaw := rfl
@[simp] theorem State.pulseDefaults_rxValid : s.pulseDefaults.rxValid = s.rxValid := rfl
@[simp] theorem State.pulseDefaults_rxRaw : s.pulseDefaults.rxRaw = s.rxRaw := rfl
@[simp] theorem State.pulseDefaults_txValid : s.pulseDefaults.txValid = s.txValid := rfl
@[simp] theorem State.pulseDefaults_txRaw : s.pulseDefaults.txRaw = s.txRaw := rfl
@[simp] theorem State.pulseDefaults_doneR : s.pulseDefaults.doneR = false := rfl
@[simp] theorem State.pulseDefaults_openReq : s.pulseDefaults.openReq = false := rfl
@[simp] theorem State.pulseDefaults_openSpeed : s.pulseDefaults.openSpeed = s.openSpeed := rfl
@[simp] theorem State.pulseDefaults_closeReq : s.pulseDefaults.closeReq = false := rfl
@[simp] theorem State.pulseDefaults_txStart : s.pulseDefaults.txStart = false := rfl
@[simp] theorem State.pulseDefaults_cfg : s.pulseDefaults.cfg = s.cfg := rfl
@[simp] theorem State.pulseDefaults_inputs : s.pulseDefaults.inputs = s.inputs := rfl

@[simp] theorem State.setLastHop_seqState (hop : Byte) : (s.setLastHop hop).seqState = s.seqState := rfl
@[simp] theorem State.setLastHop_unresp (hop : Byte) : (s.setLastHop hop).unresp = s.unresp := rfl
@[simp] theorem State.setLastHop_firstQ (hop : Byte) : (s.setLastHop hop).firstQ = s.firstQ := rfl
@[simp] theorem State.setLastHop_result (hop : Byte) : (s.setLastHop hop).result = s.result := rfl
@[simp] theorem State.setLastHop_lastHop (hop : Byte) : (s.setLastHop hop).lastHop = hop := rfl
@[simp] theorem State.setLastHop_kind (hop : Byte) : (s.setLastHop hop).kind = s.kind := rfl
@[simp] theorem State.setLastHop_tmr (hop : Byte) : (s.setLastHop hop).tmr = s.tmr := rfl
@[simp] theorem State.setLastHop_rxcnt (hop : Byte) : (s.setLastHop hop).rxcnt = s.rxcnt := rfl
@[simp] theorem State.setLastHop_rxbuf (hop : Byte) : (s.setLastHop hop).rxbuf = s.rxbuf := rfl
@[simp] theorem State.setLastHop_txpkt (hop : Byte) : (s.setLastHop hop).txpkt = s.txpkt := rfl
@[simp] theorem State.setLastHop_txpktValid (hop : Byte) : (s.setLastHop hop).txpktValid = s.txpktValid := rfl
@[simp] theorem State.setLastHop_fmValid (hop : Byte) : (s.setLastHop hop).fmValid = s.fmValid := rfl
@[simp] theorem State.setLastHop_fmRaw (hop : Byte) : (s.setLastHop hop).fmRaw = s.fmRaw := rfl
@[simp] theorem State.setLastHop_rxValid (hop : Byte) : (s.setLastHop hop).rxValid = s.rxValid := rfl
@[simp] theorem State.setLastHop_rxRaw (hop : Byte) : (s.setLastHop hop).rxRaw = s.rxRaw := rfl
@[simp] theorem State.setLastHop_txValid (hop : Byte) : (s.setLastHop hop).txValid = s.txValid := rfl
@[simp] theorem State.setLastHop_txRaw (hop : Byte) : (s.setLastHop hop).txRaw = s.txRaw := rfl
@[simp] theorem State.setLastHop_doneR (hop : Byte) : (s.setLastHop hop).doneR = s.doneR := rfl
@[simp] theorem State.setLastHop_openReq (hop : Byte) : (s.setLastHop hop).openReq = s.openReq := rfl
@[simp] theorem State.setLastHop_openSpeed (hop : Byte) : (s.setLastHop hop).openSpeed = s.openSpeed := rfl
@[simp] theorem State.setLastHop_closeReq (hop : Byte) : (s.setLastHop hop).closeReq = s.closeReq := rfl
@[simp] theorem State.setLastHop_txStart (hop : Byte) : (s.setLastHop hop).txStart = s.txStart := rfl
@[simp] theorem State.setLastHop_cfg (hop : Byte) : (s.setLastHop hop).cfg = s.cfg := rfl
@[simp] theorem State.setLastHop_inputs (hop : Byte) : (s.setLastHop hop).inputs = s.inputs := rfl

@[simp] theorem State.finish_seqState (code : ResultCode) : (s.finish code).seqState = s.seqState := rfl
@[simp] theorem State.finish_unresp (code : ResultCode) : (s.finish code).unresp = s.unresp := rfl
@[simp] theorem State.finish_firstQ (code : ResultCode) : (s.finish code).firstQ = s.firstQ := rfl
@[simp] theorem State.finish_result (code : ResultCode) : (s.finish code).result = resultBits code := rfl
@[simp] theorem State.finish_lastHop (code : ResultCode) : (s.finish code).lastHop = s.lastHop := rfl
@[simp] theorem State.finish_kind (code : ResultCode) : (s.finish code).kind = s.kind := rfl
@[simp] theorem State.finish_tmr (code : ResultCode) : (s.finish code).tmr = s.tmr := rfl
@[simp] theorem State.finish_rxcnt (code : ResultCode) : (s.finish code).rxcnt = s.rxcnt := rfl
@[simp] theorem State.finish_rxbuf (code : ResultCode) : (s.finish code).rxbuf = s.rxbuf := rfl
@[simp] theorem State.finish_txpkt (code : ResultCode) : (s.finish code).txpkt = s.txpkt := rfl
@[simp] theorem State.finish_txpktValid (code : ResultCode) : (s.finish code).txpktValid = s.txpktValid := rfl
@[simp] theorem State.finish_fmValid (code : ResultCode) : (s.finish code).fmValid = s.fmValid := rfl
@[simp] theorem State.finish_fmRaw (code : ResultCode) : (s.finish code).fmRaw = s.fmRaw := rfl
@[simp] theorem State.finish_rxValid (code : ResultCode) : (s.finish code).rxValid = s.rxValid := rfl
@[simp] theorem State.finish_rxRaw (code : ResultCode) : (s.finish code).rxRaw = s.rxRaw := rfl
@[simp] theorem State.finish_txValid (code : ResultCode) : (s.finish code).txValid = s.txValid := rfl
@[simp] theorem State.finish_txRaw (code : ResultCode) : (s.finish code).txRaw = s.txRaw := rfl
@[simp] theorem State.finish_doneR (code : ResultCode) : (s.finish code).doneR = true := rfl
@[simp] theorem State.finish_openReq (code : ResultCode) : (s.finish code).openReq = s.openReq := rfl
@[simp] theorem State.finish_openSpeed (code : ResultCode) : (s.finish code).openSpeed = s.openSpeed := rfl
@[simp] theorem State.finish_closeReq (code : ResultCode) : (s.finish code).closeReq = s.closeReq := rfl
@[simp] theorem State.finish_txStart (code : ResultCode) : (s.finish code).txStart = s.txStart := rfl
@[simp] theorem State.finish_cfg (code : ResultCode) : (s.finish code).cfg = s.cfg := rfl
@[simp] theorem State.finish_inputs (code : ResultCode) : (s.finish code).inputs = s.inputs := rfl

@[simp] theorem State.endExchange_seqState (code : ResultCode) : (s.endExchange code).seqState = restingState (completeUnresp s code) := rfl
@[simp] theorem State.endExchange_unresp (code : ResultCode) : (s.endExchange code).unresp = completeUnresp s code := rfl
@[simp] theorem State.endExchange_firstQ (code : ResultCode) : (s.endExchange code).firstQ = if s.kind = .none then s.firstQ else false := rfl
@[simp] theorem State.endExchange_result (code : ResultCode) : (s.endExchange code).result = s.result := rfl
@[simp] theorem State.endExchange_lastHop (code : ResultCode) : (s.endExchange code).lastHop = s.lastHop := rfl
@[simp] theorem State.endExchange_kind (code : ResultCode) : (s.endExchange code).kind = .none := rfl
@[simp] theorem State.endExchange_tmr (code : ResultCode) : (s.endExchange code).tmr = s.tmr := rfl
@[simp] theorem State.endExchange_rxcnt (code : ResultCode) : (s.endExchange code).rxcnt = s.rxcnt := rfl
@[simp] theorem State.endExchange_rxbuf (code : ResultCode) : (s.endExchange code).rxbuf = s.rxbuf := rfl
@[simp] theorem State.endExchange_txpkt (code : ResultCode) : (s.endExchange code).txpkt = s.txpkt := rfl
@[simp] theorem State.endExchange_txpktValid (code : ResultCode) : (s.endExchange code).txpktValid = s.txpktValid := rfl
@[simp] theorem State.endExchange_fmValid (code : ResultCode) : (s.endExchange code).fmValid = s.fmValid := rfl
@[simp] theorem State.endExchange_fmRaw (code : ResultCode) : (s.endExchange code).fmRaw = s.fmRaw := rfl
@[simp] theorem State.endExchange_rxValid (code : ResultCode) : (s.endExchange code).rxValid = s.rxValid := rfl
@[simp] theorem State.endExchange_rxRaw (code : ResultCode) : (s.endExchange code).rxRaw = s.rxRaw := rfl
@[simp] theorem State.endExchange_txValid (code : ResultCode) : (s.endExchange code).txValid = s.txValid := rfl
@[simp] theorem State.endExchange_txRaw (code : ResultCode) : (s.endExchange code).txRaw = s.txRaw := rfl
@[simp] theorem State.endExchange_doneR (code : ResultCode) : (s.endExchange code).doneR = s.doneR := rfl
@[simp] theorem State.endExchange_openReq (code : ResultCode) : (s.endExchange code).openReq = s.openReq := rfl
@[simp] theorem State.endExchange_openSpeed (code : ResultCode) : (s.endExchange code).openSpeed = s.openSpeed := rfl
@[simp] theorem State.endExchange_closeReq (code : ResultCode) : (s.endExchange code).closeReq = s.closeReq := rfl
@[simp] theorem State.endExchange_txStart (code : ResultCode) : (s.endExchange code).txStart = s.txStart := rfl
@[simp] theorem State.endExchange_cfg (code : ResultCode) : (s.endExchange code).cfg = s.cfg := rfl
@[simp] theorem State.endExchange_inputs (code : ResultCode) : (s.endExchange code).inputs = s.inputs := rfl

@[simp] theorem State.complete_seqState (code : ResultCode) : (s.complete code).seqState = restingState (completeUnresp s code) := rfl
@[simp] theorem State.complete_unresp (code : ResultCode) : (s.complete code).unresp = completeUnresp s code := rfl
@[simp] theorem State.complete_firstQ (code : ResultCode) : (s.complete code).firstQ = if s.kind = .none then s.firstQ else false := rfl
@[simp] theorem State.complete_result (code : ResultCode) : (s.complete code).result = resultBits code := rfl
@[simp] theorem State.complete_lastHop (code : ResultCode) : (s.complete code).lastHop = s.lastHop := rfl
@[simp] theorem State.complete_kind (code : ResultCode) : (s.complete code).kind = .none := rfl
@[simp] theorem State.complete_tmr (code : ResultCode) : (s.complete code).tmr = s.tmr := rfl
@[simp] theorem State.complete_rxcnt (code : ResultCode) : (s.complete code).rxcnt = s.rxcnt := rfl
@[simp] theorem State.complete_rxbuf (code : ResultCode) : (s.complete code).rxbuf = s.rxbuf := rfl
@[simp] theorem State.complete_txpkt (code : ResultCode) : (s.complete code).txpkt = s.txpkt := rfl
@[simp] theorem State.complete_txpktValid (code : ResultCode) : (s.complete code).txpktValid = s.txpktValid := rfl
@[simp] theorem State.complete_fmValid (code : ResultCode) : (s.complete code).fmValid = s.fmValid := rfl
@[simp] theorem State.complete_fmRaw (code : ResultCode) : (s.complete code).fmRaw = s.fmRaw := rfl
@[simp] theorem State.complete_rxValid (code : ResultCode) : (s.complete code).rxValid = s.rxValid := rfl
@[simp] theorem State.complete_rxRaw (code : ResultCode) : (s.complete code).rxRaw = s.rxRaw := rfl
@[simp] theorem State.complete_txValid (code : ResultCode) : (s.complete code).txValid = s.txValid := rfl
@[simp] theorem State.complete_txRaw (code : ResultCode) : (s.complete code).txRaw = s.txRaw := rfl
@[simp] theorem State.complete_doneR (code : ResultCode) : (s.complete code).doneR = true := rfl
@[simp] theorem State.complete_openReq (code : ResultCode) : (s.complete code).openReq = s.openReq := rfl
@[simp] theorem State.complete_openSpeed (code : ResultCode) : (s.complete code).openSpeed = s.openSpeed := rfl
@[simp] theorem State.complete_closeReq (code : ResultCode) : (s.complete code).closeReq = s.closeReq := rfl
@[simp] theorem State.complete_txStart (code : ResultCode) : (s.complete code).txStart = s.txStart := rfl
@[simp] theorem State.complete_cfg (code : ResultCode) : (s.complete code).cfg = s.cfg := rfl
@[simp] theorem State.complete_inputs (code : ResultCode) : (s.complete code).inputs = s.inputs := rfl

@[simp] theorem State.requestOpen_seqState (speed : Word32) : (s.requestOpen speed).seqState = .opening := rfl
@[simp] theorem State.requestOpen_unresp (speed : Word32) : (s.requestOpen speed).unresp = s.unresp := rfl
@[simp] theorem State.requestOpen_firstQ (speed : Word32) : (s.requestOpen speed).firstQ = s.firstQ := rfl
@[simp] theorem State.requestOpen_result (speed : Word32) : (s.requestOpen speed).result = s.result := rfl
@[simp] theorem State.requestOpen_lastHop (speed : Word32) : (s.requestOpen speed).lastHop = s.lastHop := rfl
@[simp] theorem State.requestOpen_kind (speed : Word32) : (s.requestOpen speed).kind = s.kind := rfl
@[simp] theorem State.requestOpen_tmr (speed : Word32) : (s.requestOpen speed).tmr = s.tmr := rfl
@[simp] theorem State.requestOpen_rxcnt (speed : Word32) : (s.requestOpen speed).rxcnt = s.rxcnt := rfl
@[simp] theorem State.requestOpen_rxbuf (speed : Word32) : (s.requestOpen speed).rxbuf = s.rxbuf := rfl
@[simp] theorem State.requestOpen_txpkt (speed : Word32) : (s.requestOpen speed).txpkt = s.txpkt := rfl
@[simp] theorem State.requestOpen_txpktValid (speed : Word32) : (s.requestOpen speed).txpktValid = s.txpktValid := rfl
@[simp] theorem State.requestOpen_fmValid (speed : Word32) : (s.requestOpen speed).fmValid = s.fmValid := rfl
@[simp] theorem State.requestOpen_fmRaw (speed : Word32) : (s.requestOpen speed).fmRaw = s.fmRaw := rfl
@[simp] theorem State.requestOpen_rxValid (speed : Word32) : (s.requestOpen speed).rxValid = s.rxValid := rfl
@[simp] theorem State.requestOpen_rxRaw (speed : Word32) : (s.requestOpen speed).rxRaw = s.rxRaw := rfl
@[simp] theorem State.requestOpen_txValid (speed : Word32) : (s.requestOpen speed).txValid = s.txValid := rfl
@[simp] theorem State.requestOpen_txRaw (speed : Word32) : (s.requestOpen speed).txRaw = s.txRaw := rfl
@[simp] theorem State.requestOpen_doneR (speed : Word32) : (s.requestOpen speed).doneR = s.doneR := rfl
@[simp] theorem State.requestOpen_openReq (speed : Word32) : (s.requestOpen speed).openReq = true := rfl
@[simp] theorem State.requestOpen_openSpeed (speed : Word32) : (s.requestOpen speed).openSpeed = speed := rfl
@[simp] theorem State.requestOpen_closeReq (speed : Word32) : (s.requestOpen speed).closeReq = s.closeReq := rfl
@[simp] theorem State.requestOpen_txStart (speed : Word32) : (s.requestOpen speed).txStart = s.txStart := rfl
@[simp] theorem State.requestOpen_cfg (speed : Word32) : (s.requestOpen speed).cfg = s.cfg := rfl
@[simp] theorem State.requestOpen_inputs (speed : Word32) : (s.requestOpen speed).inputs = s.inputs := rfl

@[simp] theorem State.closeSession_seqState : s.closeSession.seqState = .disconnected := rfl
@[simp] theorem State.closeSession_unresp : s.closeSession.unresp = s.unresp := rfl
@[simp] theorem State.closeSession_firstQ : s.closeSession.firstQ = false := rfl
@[simp] theorem State.closeSession_result : s.closeSession.result = s.result := rfl
@[simp] theorem State.closeSession_lastHop : s.closeSession.lastHop = s.lastHop := rfl
@[simp] theorem State.closeSession_kind : s.closeSession.kind = s.kind := rfl
@[simp] theorem State.closeSession_tmr : s.closeSession.tmr = s.tmr := rfl
@[simp] theorem State.closeSession_rxcnt : s.closeSession.rxcnt = s.rxcnt := rfl
@[simp] theorem State.closeSession_rxbuf : s.closeSession.rxbuf = s.rxbuf := rfl
@[simp] theorem State.closeSession_txpkt : s.closeSession.txpkt = s.txpkt := rfl
@[simp] theorem State.closeSession_txpktValid : s.closeSession.txpktValid = s.txpktValid := rfl
@[simp] theorem State.closeSession_fmValid : s.closeSession.fmValid = s.fmValid := rfl
@[simp] theorem State.closeSession_fmRaw : s.closeSession.fmRaw = s.fmRaw := rfl
@[simp] theorem State.closeSession_rxValid : s.closeSession.rxValid = s.rxValid := rfl
@[simp] theorem State.closeSession_rxRaw : s.closeSession.rxRaw = s.rxRaw := rfl
@[simp] theorem State.closeSession_txValid : s.closeSession.txValid = s.txValid := rfl
@[simp] theorem State.closeSession_txRaw : s.closeSession.txRaw = s.txRaw := rfl
@[simp] theorem State.closeSession_doneR : s.closeSession.doneR = s.doneR := rfl
@[simp] theorem State.closeSession_openReq : s.closeSession.openReq = s.openReq := rfl
@[simp] theorem State.closeSession_openSpeed : s.closeSession.openSpeed = s.openSpeed := rfl
@[simp] theorem State.closeSession_closeReq : s.closeSession.closeReq = true := rfl
@[simp] theorem State.closeSession_txStart : s.closeSession.txStart = s.txStart := rfl
@[simp] theorem State.closeSession_cfg : s.closeSession.cfg = s.cfg := rfl
@[simp] theorem State.closeSession_inputs : s.closeSession.inputs = s.inputs := rfl

@[simp] theorem State.dispatch_seqState (pkt : Packet) (k : Kind) : (s.dispatch pkt k).seqState = .sending := rfl
@[simp] theorem State.dispatch_unresp (pkt : Packet) (k : Kind) : (s.dispatch pkt k).unresp = s.unresp := rfl
@[simp] theorem State.dispatch_firstQ (pkt : Packet) (k : Kind) : (s.dispatch pkt k).firstQ = s.firstQ := rfl
@[simp] theorem State.dispatch_result (pkt : Packet) (k : Kind) : (s.dispatch pkt k).result = s.result := rfl
@[simp] theorem State.dispatch_lastHop (pkt : Packet) (k : Kind) : (s.dispatch pkt k).lastHop = s.lastHop := rfl
@[simp] theorem State.dispatch_kind (pkt : Packet) (k : Kind) : (s.dispatch pkt k).kind = k := rfl
@[simp] theorem State.dispatch_tmr (pkt : Packet) (k : Kind) : (s.dispatch pkt k).tmr = s.tmr := rfl
@[simp] theorem State.dispatch_rxcnt (pkt : Packet) (k : Kind) : (s.dispatch pkt k).rxcnt = if k = .none then s.rxcnt else 0 := rfl
@[simp] theorem State.dispatch_rxbuf (pkt : Packet) (k : Kind) : (s.dispatch pkt k).rxbuf = if k = .none then s.rxbuf else Packet.zero := rfl
@[simp] theorem State.dispatch_txpkt (pkt : Packet) (k : Kind) : (s.dispatch pkt k).txpkt = pkt := rfl
@[simp] theorem State.dispatch_txpktValid (pkt : Packet) (k : Kind) : (s.dispatch pkt k).txpktValid = true := rfl
@[simp] theorem State.dispatch_fmValid (pkt : Packet) (k : Kind) : (s.dispatch pkt k).fmValid = s.fmValid := rfl
@[simp] theorem State.dispatch_fmRaw (pkt : Packet) (k : Kind) : (s.dispatch pkt k).fmRaw = s.fmRaw := rfl
@[simp] theorem State.dispatch_rxValid (pkt : Packet) (k : Kind) : (s.dispatch pkt k).rxValid = s.rxValid := rfl
@[simp] theorem State.dispatch_rxRaw (pkt : Packet) (k : Kind) : (s.dispatch pkt k).rxRaw = s.rxRaw := rfl
@[simp] theorem State.dispatch_txValid (pkt : Packet) (k : Kind) : (s.dispatch pkt k).txValid = s.txValid := rfl
@[simp] theorem State.dispatch_txRaw (pkt : Packet) (k : Kind) : (s.dispatch pkt k).txRaw = s.txRaw := rfl
@[simp] theorem State.dispatch_doneR (pkt : Packet) (k : Kind) : (s.dispatch pkt k).doneR = s.doneR := rfl
@[simp] theorem State.dispatch_openReq (pkt : Packet) (k : Kind) : (s.dispatch pkt k).openReq = s.openReq := rfl
@[simp] theorem State.dispatch_openSpeed (pkt : Packet) (k : Kind) : (s.dispatch pkt k).openSpeed = s.openSpeed := rfl
@[simp] theorem State.dispatch_closeReq (pkt : Packet) (k : Kind) : (s.dispatch pkt k).closeReq = s.closeReq := rfl
@[simp] theorem State.dispatch_txStart (pkt : Packet) (k : Kind) : (s.dispatch pkt k).txStart = true := rfl
@[simp] theorem State.dispatch_cfg (pkt : Packet) (k : Kind) : (s.dispatch pkt k).cfg = s.cfg := rfl
@[simp] theorem State.dispatch_inputs (pkt : Packet) (k : Kind) : (s.dispatch pkt k).inputs = s.inputs := rfl

@[simp] theorem State.holdReply_seqState (buf1 : Packet) (cnt1 : BitVec 3) : (s.holdReply buf1 cnt1).seqState = s.seqState := rfl
@[simp] theorem State.holdReply_unresp (buf1 : Packet) (cnt1 : BitVec 3) : (s.holdReply buf1 cnt1).unresp = s.unresp := rfl
@[simp] theorem State.holdReply_firstQ (buf1 : Packet) (cnt1 : BitVec 3) : (s.holdReply buf1 cnt1).firstQ = s.firstQ := rfl
@[simp] theorem State.holdReply_result (buf1 : Packet) (cnt1 : BitVec 3) : (s.holdReply buf1 cnt1).result = s.result := rfl
@[simp] theorem State.holdReply_lastHop (buf1 : Packet) (cnt1 : BitVec 3) : (s.holdReply buf1 cnt1).lastHop = s.lastHop := rfl
@[simp] theorem State.holdReply_kind (buf1 : Packet) (cnt1 : BitVec 3) : (s.holdReply buf1 cnt1).kind = s.kind := rfl
@[simp] theorem State.holdReply_tmr (buf1 : Packet) (cnt1 : BitVec 3) : (s.holdReply buf1 cnt1).tmr = s.tmr := rfl
@[simp] theorem State.holdReply_rxcnt (buf1 : Packet) (cnt1 : BitVec 3) : (s.holdReply buf1 cnt1).rxcnt = cnt1 := rfl
@[simp] theorem State.holdReply_rxbuf (buf1 : Packet) (cnt1 : BitVec 3) : (s.holdReply buf1 cnt1).rxbuf = buf1 := rfl
@[simp] theorem State.holdReply_txpkt (buf1 : Packet) (cnt1 : BitVec 3) : (s.holdReply buf1 cnt1).txpkt = s.txpkt := rfl
@[simp] theorem State.holdReply_txpktValid (buf1 : Packet) (cnt1 : BitVec 3) : (s.holdReply buf1 cnt1).txpktValid = s.txpktValid := rfl
@[simp] theorem State.holdReply_fmValid (buf1 : Packet) (cnt1 : BitVec 3) : (s.holdReply buf1 cnt1).fmValid = s.fmValid := rfl
@[simp] theorem State.holdReply_fmRaw (buf1 : Packet) (cnt1 : BitVec 3) : (s.holdReply buf1 cnt1).fmRaw = s.fmRaw := rfl
@[simp] theorem State.holdReply_rxValid (buf1 : Packet) (cnt1 : BitVec 3) : (s.holdReply buf1 cnt1).rxValid = s.rxValid := rfl
@[simp] theorem State.holdReply_rxRaw (buf1 : Packet) (cnt1 : BitVec 3) : (s.holdReply buf1 cnt1).rxRaw = s.rxRaw := rfl
@[simp] theorem State.holdReply_txValid (buf1 : Packet) (cnt1 : BitVec 3) : (s.holdReply buf1 cnt1).txValid = s.txValid := rfl
@[simp] theorem State.holdReply_txRaw (buf1 : Packet) (cnt1 : BitVec 3) : (s.holdReply buf1 cnt1).txRaw = s.txRaw := rfl
@[simp] theorem State.holdReply_doneR (buf1 : Packet) (cnt1 : BitVec 3) : (s.holdReply buf1 cnt1).doneR = s.doneR := rfl
@[simp] theorem State.holdReply_openReq (buf1 : Packet) (cnt1 : BitVec 3) : (s.holdReply buf1 cnt1).openReq = s.openReq := rfl
@[simp] theorem State.holdReply_openSpeed (buf1 : Packet) (cnt1 : BitVec 3) : (s.holdReply buf1 cnt1).openSpeed = s.openSpeed := rfl
@[simp] theorem State.holdReply_closeReq (buf1 : Packet) (cnt1 : BitVec 3) : (s.holdReply buf1 cnt1).closeReq = s.closeReq := rfl
@[simp] theorem State.holdReply_txStart (buf1 : Packet) (cnt1 : BitVec 3) : (s.holdReply buf1 cnt1).txStart = s.txStart := rfl
@[simp] theorem State.holdReply_cfg (buf1 : Packet) (cnt1 : BitVec 3) : (s.holdReply buf1 cnt1).cfg = s.cfg := rfl
@[simp] theorem State.holdReply_inputs (buf1 : Packet) (cnt1 : BitVec 3) : (s.holdReply buf1 cnt1).inputs = s.inputs := rfl

@[simp] theorem State.commitFm_seqState (reply : Packet) : (s.commitFm reply).seqState = s.seqState := rfl
@[simp] theorem State.commitFm_unresp (reply : Packet) : (s.commitFm reply).unresp = s.unresp := rfl
@[simp] theorem State.commitFm_firstQ (reply : Packet) : (s.commitFm reply).firstQ = s.firstQ := rfl
@[simp] theorem State.commitFm_result (reply : Packet) : (s.commitFm reply).result = s.result := rfl
@[simp] theorem State.commitFm_lastHop (reply : Packet) : (s.commitFm reply).lastHop = s.lastHop := rfl
@[simp] theorem State.commitFm_kind (reply : Packet) : (s.commitFm reply).kind = s.kind := rfl
@[simp] theorem State.commitFm_tmr (reply : Packet) : (s.commitFm reply).tmr = s.tmr := rfl
@[simp] theorem State.commitFm_rxcnt (reply : Packet) : (s.commitFm reply).rxcnt = s.rxcnt := rfl
@[simp] theorem State.commitFm_rxbuf (reply : Packet) : (s.commitFm reply).rxbuf = s.rxbuf := rfl
@[simp] theorem State.commitFm_txpkt (reply : Packet) : (s.commitFm reply).txpkt = s.txpkt := rfl
@[simp] theorem State.commitFm_txpktValid (reply : Packet) : (s.commitFm reply).txpktValid = s.txpktValid := rfl
@[simp] theorem State.commitFm_fmValid (reply : Packet) : (s.commitFm reply).fmValid = true := rfl
@[simp] theorem State.commitFm_fmRaw (reply : Packet) : (s.commitFm reply).fmRaw = reply := rfl
@[simp] theorem State.commitFm_rxValid (reply : Packet) : (s.commitFm reply).rxValid = s.rxValid := rfl
@[simp] theorem State.commitFm_rxRaw (reply : Packet) : (s.commitFm reply).rxRaw = s.rxRaw := rfl
@[simp] theorem State.commitFm_txValid (reply : Packet) : (s.commitFm reply).txValid = s.txValid := rfl
@[simp] theorem State.commitFm_txRaw (reply : Packet) : (s.commitFm reply).txRaw = s.txRaw := rfl
@[simp] theorem State.commitFm_doneR (reply : Packet) : (s.commitFm reply).doneR = s.doneR := rfl
@[simp] theorem State.commitFm_openReq (reply : Packet) : (s.commitFm reply).openReq = s.openReq := rfl
@[simp] theorem State.commitFm_openSpeed (reply : Packet) : (s.commitFm reply).openSpeed = s.openSpeed := rfl
@[simp] theorem State.commitFm_closeReq (reply : Packet) : (s.commitFm reply).closeReq = s.closeReq := rfl
@[simp] theorem State.commitFm_txStart (reply : Packet) : (s.commitFm reply).txStart = s.txStart := rfl
@[simp] theorem State.commitFm_cfg (reply : Packet) : (s.commitFm reply).cfg = s.cfg := rfl
@[simp] theorem State.commitFm_inputs (reply : Packet) : (s.commitFm reply).inputs = s.inputs := rfl

@[simp] theorem State.commitRx_seqState (b : Byte) : (s.commitRx b).seqState = s.seqState := rfl
@[simp] theorem State.commitRx_unresp (b : Byte) : (s.commitRx b).unresp = s.unresp := rfl
@[simp] theorem State.commitRx_firstQ (b : Byte) : (s.commitRx b).firstQ = s.firstQ := rfl
@[simp] theorem State.commitRx_result (b : Byte) : (s.commitRx b).result = s.result := rfl
@[simp] theorem State.commitRx_lastHop (b : Byte) : (s.commitRx b).lastHop = s.lastHop := rfl
@[simp] theorem State.commitRx_kind (b : Byte) : (s.commitRx b).kind = s.kind := rfl
@[simp] theorem State.commitRx_tmr (b : Byte) : (s.commitRx b).tmr = s.tmr := rfl
@[simp] theorem State.commitRx_rxcnt (b : Byte) : (s.commitRx b).rxcnt = s.rxcnt := rfl
@[simp] theorem State.commitRx_rxbuf (b : Byte) : (s.commitRx b).rxbuf = s.rxbuf := rfl
@[simp] theorem State.commitRx_txpkt (b : Byte) : (s.commitRx b).txpkt = s.txpkt := rfl
@[simp] theorem State.commitRx_txpktValid (b : Byte) : (s.commitRx b).txpktValid = s.txpktValid := rfl
@[simp] theorem State.commitRx_fmValid (b : Byte) : (s.commitRx b).fmValid = s.fmValid := rfl
@[simp] theorem State.commitRx_fmRaw (b : Byte) : (s.commitRx b).fmRaw = s.fmRaw := rfl
@[simp] theorem State.commitRx_rxValid (b : Byte) : (s.commitRx b).rxValid = true := rfl
@[simp] theorem State.commitRx_rxRaw (b : Byte) : (s.commitRx b).rxRaw = b := rfl
@[simp] theorem State.commitRx_txValid (b : Byte) : (s.commitRx b).txValid = s.txValid := rfl
@[simp] theorem State.commitRx_txRaw (b : Byte) : (s.commitRx b).txRaw = s.txRaw := rfl
@[simp] theorem State.commitRx_doneR (b : Byte) : (s.commitRx b).doneR = s.doneR := rfl
@[simp] theorem State.commitRx_openReq (b : Byte) : (s.commitRx b).openReq = s.openReq := rfl
@[simp] theorem State.commitRx_openSpeed (b : Byte) : (s.commitRx b).openSpeed = s.openSpeed := rfl
@[simp] theorem State.commitRx_closeReq (b : Byte) : (s.commitRx b).closeReq = s.closeReq := rfl
@[simp] theorem State.commitRx_txStart (b : Byte) : (s.commitRx b).txStart = s.txStart := rfl
@[simp] theorem State.commitRx_cfg (b : Byte) : (s.commitRx b).cfg = s.cfg := rfl
@[simp] theorem State.commitRx_inputs (b : Byte) : (s.commitRx b).inputs = s.inputs := rfl

@[simp] theorem State.commitTx_seqState (b : Byte) : (s.commitTx b).seqState = s.seqState := rfl
@[simp] theorem State.commitTx_unresp (b : Byte) : (s.commitTx b).unresp = s.unresp := rfl
@[simp] theorem State.commitTx_firstQ (b : Byte) : (s.commitTx b).firstQ = s.firstQ := rfl
@[simp] theorem State.commitTx_result (b : Byte) : (s.commitTx b).result = s.result := rfl
@[simp] theorem State.commitTx_lastHop (b : Byte) : (s.commitTx b).lastHop = s.lastHop := rfl
@[simp] theorem State.commitTx_kind (b : Byte) : (s.commitTx b).kind = s.kind := rfl
@[simp] theorem State.commitTx_tmr (b : Byte) : (s.commitTx b).tmr = s.tmr := rfl
@[simp] theorem State.commitTx_rxcnt (b : Byte) : (s.commitTx b).rxcnt = s.rxcnt := rfl
@[simp] theorem State.commitTx_rxbuf (b : Byte) : (s.commitTx b).rxbuf = s.rxbuf := rfl
@[simp] theorem State.commitTx_txpkt (b : Byte) : (s.commitTx b).txpkt = s.txpkt := rfl
@[simp] theorem State.commitTx_txpktValid (b : Byte) : (s.commitTx b).txpktValid = s.txpktValid := rfl
@[simp] theorem State.commitTx_fmValid (b : Byte) : (s.commitTx b).fmValid = s.fmValid := rfl
@[simp] theorem State.commitTx_fmRaw (b : Byte) : (s.commitTx b).fmRaw = s.fmRaw := rfl
@[simp] theorem State.commitTx_rxValid (b : Byte) : (s.commitTx b).rxValid = s.rxValid := rfl
@[simp] theorem State.commitTx_rxRaw (b : Byte) : (s.commitTx b).rxRaw = s.rxRaw := rfl
@[simp] theorem State.commitTx_txValid (b : Byte) : (s.commitTx b).txValid = true := rfl
@[simp] theorem State.commitTx_txRaw (b : Byte) : (s.commitTx b).txRaw = b := rfl
@[simp] theorem State.commitTx_doneR (b : Byte) : (s.commitTx b).doneR = s.doneR := rfl
@[simp] theorem State.commitTx_openReq (b : Byte) : (s.commitTx b).openReq = s.openReq := rfl
@[simp] theorem State.commitTx_openSpeed (b : Byte) : (s.commitTx b).openSpeed = s.openSpeed := rfl
@[simp] theorem State.commitTx_closeReq (b : Byte) : (s.commitTx b).closeReq = s.closeReq := rfl
@[simp] theorem State.commitTx_txStart (b : Byte) : (s.commitTx b).txStart = s.txStart := rfl
@[simp] theorem State.commitTx_cfg (b : Byte) : (s.commitTx b).cfg = s.cfg := rfl
@[simp] theorem State.commitTx_inputs (b : Byte) : (s.commitTx b).inputs = s.inputs := rfl

@[simp] theorem State.setTimer_seqState (v : Word32) : (s.setTimer v).seqState = s.seqState := rfl
@[simp] theorem State.setTimer_unresp (v : Word32) : (s.setTimer v).unresp = s.unresp := rfl
@[simp] theorem State.setTimer_firstQ (v : Word32) : (s.setTimer v).firstQ = s.firstQ := rfl
@[simp] theorem State.setTimer_result (v : Word32) : (s.setTimer v).result = s.result := rfl
@[simp] theorem State.setTimer_lastHop (v : Word32) : (s.setTimer v).lastHop = s.lastHop := rfl
@[simp] theorem State.setTimer_kind (v : Word32) : (s.setTimer v).kind = s.kind := rfl
@[simp] theorem State.setTimer_tmr (v : Word32) : (s.setTimer v).tmr = v := rfl
@[simp] theorem State.setTimer_rxcnt (v : Word32) : (s.setTimer v).rxcnt = s.rxcnt := rfl
@[simp] theorem State.setTimer_rxbuf (v : Word32) : (s.setTimer v).rxbuf = s.rxbuf := rfl
@[simp] theorem State.setTimer_txpkt (v : Word32) : (s.setTimer v).txpkt = s.txpkt := rfl
@[simp] theorem State.setTimer_txpktValid (v : Word32) : (s.setTimer v).txpktValid = s.txpktValid := rfl
@[simp] theorem State.setTimer_fmValid (v : Word32) : (s.setTimer v).fmValid = s.fmValid := rfl
@[simp] theorem State.setTimer_fmRaw (v : Word32) : (s.setTimer v).fmRaw = s.fmRaw := rfl
@[simp] theorem State.setTimer_rxValid (v : Word32) : (s.setTimer v).rxValid = s.rxValid := rfl
@[simp] theorem State.setTimer_rxRaw (v : Word32) : (s.setTimer v).rxRaw = s.rxRaw := rfl
@[simp] theorem State.setTimer_txValid (v : Word32) : (s.setTimer v).txValid = s.txValid := rfl
@[simp] theorem State.setTimer_txRaw (v : Word32) : (s.setTimer v).txRaw = s.txRaw := rfl
@[simp] theorem State.setTimer_doneR (v : Word32) : (s.setTimer v).doneR = s.doneR := rfl
@[simp] theorem State.setTimer_openReq (v : Word32) : (s.setTimer v).openReq = s.openReq := rfl
@[simp] theorem State.setTimer_openSpeed (v : Word32) : (s.setTimer v).openSpeed = s.openSpeed := rfl
@[simp] theorem State.setTimer_closeReq (v : Word32) : (s.setTimer v).closeReq = s.closeReq := rfl
@[simp] theorem State.setTimer_txStart (v : Word32) : (s.setTimer v).txStart = s.txStart := rfl
@[simp] theorem State.setTimer_cfg (v : Word32) : (s.setTimer v).cfg = s.cfg := rfl
@[simp] theorem State.setTimer_inputs (v : Word32) : (s.setTimer v).inputs = s.inputs := rfl

@[simp] theorem State.enter_seqState (q : SeqState) : (s.enter q).seqState = q := rfl
@[simp] theorem State.enter_unresp (q : SeqState) : (s.enter q).unresp = s.unresp := rfl
@[simp] theorem State.enter_firstQ (q : SeqState) : (s.enter q).firstQ = s.firstQ := rfl
@[simp] theorem State.enter_result (q : SeqState) : (s.enter q).result = s.result := rfl
@[simp] theorem State.enter_lastHop (q : SeqState) : (s.enter q).lastHop = s.lastHop := rfl
@[simp] theorem State.enter_kind (q : SeqState) : (s.enter q).kind = s.kind := rfl
@[simp] theorem State.enter_tmr (q : SeqState) : (s.enter q).tmr = s.tmr := rfl
@[simp] theorem State.enter_rxcnt (q : SeqState) : (s.enter q).rxcnt = s.rxcnt := rfl
@[simp] theorem State.enter_rxbuf (q : SeqState) : (s.enter q).rxbuf = s.rxbuf := rfl
@[simp] theorem State.enter_txpkt (q : SeqState) : (s.enter q).txpkt = s.txpkt := rfl
@[simp] theorem State.enter_txpktValid (q : SeqState) : (s.enter q).txpktValid = s.txpktValid := rfl
@[simp] theorem State.enter_fmValid (q : SeqState) : (s.enter q).fmValid = s.fmValid := rfl
@[simp] theorem State.enter_fmRaw (q : SeqState) : (s.enter q).fmRaw = s.fmRaw := rfl
@[simp] theorem State.enter_rxValid (q : SeqState) : (s.enter q).rxValid = s.rxValid := rfl
@[simp] theorem State.enter_rxRaw (q : SeqState) : (s.enter q).rxRaw = s.rxRaw := rfl
@[simp] theorem State.enter_txValid (q : SeqState) : (s.enter q).txValid = s.txValid := rfl
@[simp] theorem State.enter_txRaw (q : SeqState) : (s.enter q).txRaw = s.txRaw := rfl
@[simp] theorem State.enter_doneR (q : SeqState) : (s.enter q).doneR = s.doneR := rfl
@[simp] theorem State.enter_openReq (q : SeqState) : (s.enter q).openReq = s.openReq := rfl
@[simp] theorem State.enter_openSpeed (q : SeqState) : (s.enter q).openSpeed = s.openSpeed := rfl
@[simp] theorem State.enter_closeReq (q : SeqState) : (s.enter q).closeReq = s.closeReq := rfl
@[simp] theorem State.enter_txStart (q : SeqState) : (s.enter q).txStart = s.txStart := rfl
@[simp] theorem State.enter_cfg (q : SeqState) : (s.enter q).cfg = s.cfg := rfl
@[simp] theorem State.enter_inputs (q : SeqState) : (s.enter q).inputs = s.inputs := rfl

@[simp] theorem State.startSession_seqState : s.startSession.seqState = .connected := rfl
@[simp] theorem State.startSession_unresp : s.startSession.unresp = false := rfl
@[simp] theorem State.startSession_firstQ : s.startSession.firstQ = true := rfl
@[simp] theorem State.startSession_result : s.startSession.result = s.result := rfl
@[simp] theorem State.startSession_lastHop : s.startSession.lastHop = s.lastHop := rfl
@[simp] theorem State.startSession_kind : s.startSession.kind = s.kind := rfl
@[simp] theorem State.startSession_tmr : s.startSession.tmr = s.tmr := rfl
@[simp] theorem State.startSession_rxcnt : s.startSession.rxcnt = s.rxcnt := rfl
@[simp] theorem State.startSession_rxbuf : s.startSession.rxbuf = s.rxbuf := rfl
@[simp] theorem State.startSession_txpkt : s.startSession.txpkt = s.txpkt := rfl
@[simp] theorem State.startSession_txpktValid : s.startSession.txpktValid = s.txpktValid := rfl
@[simp] theorem State.startSession_fmValid : s.startSession.fmValid = false := rfl
@[simp] theorem State.startSession_fmRaw : s.startSession.fmRaw = Packet.zero := rfl
@[simp] theorem State.startSession_rxValid : s.startSession.rxValid = false := rfl
@[simp] theorem State.startSession_rxRaw : s.startSession.rxRaw = 0 := rfl
@[simp] theorem State.startSession_txValid : s.startSession.txValid = false := rfl
@[simp] theorem State.startSession_txRaw : s.startSession.txRaw = 0 := rfl
@[simp] theorem State.startSession_doneR : s.startSession.doneR = s.doneR := rfl
@[simp] theorem State.startSession_openReq : s.startSession.openReq = s.openReq := rfl
@[simp] theorem State.startSession_openSpeed : s.startSession.openSpeed = s.openSpeed := rfl
@[simp] theorem State.startSession_closeReq : s.startSession.closeReq = s.closeReq := rfl
@[simp] theorem State.startSession_txStart : s.startSession.txStart = s.txStart := rfl
@[simp] theorem State.startSession_cfg : s.startSession.cfg = s.cfg := rfl
@[simp] theorem State.startSession_inputs : s.startSession.inputs = s.inputs := rfl

@[simp] theorem State.advance_seqState : s.advance.seqState = s.seqState := rfl
@[simp] theorem State.advance_unresp : s.advance.unresp = s.unresp := rfl
@[simp] theorem State.advance_firstQ : s.advance.firstQ = s.firstQ := rfl
@[simp] theorem State.advance_result : s.advance.result = s.result := rfl
@[simp] theorem State.advance_lastHop : s.advance.lastHop = s.lastHop := rfl
@[simp] theorem State.advance_kind : s.advance.kind = s.kind := rfl
@[simp] theorem State.advance_tmr : s.advance.tmr = s.tmr := rfl
@[simp] theorem State.advance_rxcnt : s.advance.rxcnt = s.rxcnt := rfl
@[simp] theorem State.advance_rxbuf : s.advance.rxbuf = s.rxbuf := rfl
@[simp] theorem State.advance_txpkt : s.advance.txpkt = s.txpkt := rfl
@[simp] theorem State.advance_txpktValid : s.advance.txpktValid = s.txpktValid := rfl
@[simp] theorem State.advance_fmValid : s.advance.fmValid = s.fmValid := rfl
@[simp] theorem State.advance_fmRaw : s.advance.fmRaw = s.fmRaw := rfl
@[simp] theorem State.advance_rxValid : s.advance.rxValid = s.rxValid := rfl
@[simp] theorem State.advance_rxRaw : s.advance.rxRaw = s.rxRaw := rfl
@[simp] theorem State.advance_txValid : s.advance.txValid = s.txValid := rfl
@[simp] theorem State.advance_txRaw : s.advance.txRaw = s.txRaw := rfl
@[simp] theorem State.advance_doneR : s.advance.doneR = s.doneR := rfl
@[simp] theorem State.advance_openReq : s.advance.openReq = s.openReq := rfl
@[simp] theorem State.advance_openSpeed : s.advance.openSpeed = s.openSpeed := rfl
@[simp] theorem State.advance_closeReq : s.advance.closeReq = s.closeReq := rfl
@[simp] theorem State.advance_txStart : s.advance.txStart = s.txStart := rfl
@[simp] theorem State.advance_cfg : s.advance.cfg = s.cfg := rfl
@[simp] theorem State.advance_inputs : s.advance.inputs = s.inputs.tail := rfl

@[simp] theorem State.seeing_seqState (p : PortIn) : (s.seeing p).seqState = s.seqState := rfl
@[simp] theorem State.seeing_unresp (p : PortIn) : (s.seeing p).unresp = s.unresp := rfl
@[simp] theorem State.seeing_firstQ (p : PortIn) : (s.seeing p).firstQ = s.firstQ := rfl
@[simp] theorem State.seeing_result (p : PortIn) : (s.seeing p).result = s.result := rfl
@[simp] theorem State.seeing_lastHop (p : PortIn) : (s.seeing p).lastHop = s.lastHop := rfl
@[simp] theorem State.seeing_kind (p : PortIn) : (s.seeing p).kind = s.kind := rfl
@[simp] theorem State.seeing_tmr (p : PortIn) : (s.seeing p).tmr = s.tmr := rfl
@[simp] theorem State.seeing_rxcnt (p : PortIn) : (s.seeing p).rxcnt = s.rxcnt := rfl
@[simp] theorem State.seeing_rxbuf (p : PortIn) : (s.seeing p).rxbuf = s.rxbuf := rfl
@[simp] theorem State.seeing_txpkt (p : PortIn) : (s.seeing p).txpkt = s.txpkt := rfl
@[simp] theorem State.seeing_txpktValid (p : PortIn) : (s.seeing p).txpktValid = s.txpktValid := rfl
@[simp] theorem State.seeing_fmValid (p : PortIn) : (s.seeing p).fmValid = s.fmValid := rfl
@[simp] theorem State.seeing_fmRaw (p : PortIn) : (s.seeing p).fmRaw = s.fmRaw := rfl
@[simp] theorem State.seeing_rxValid (p : PortIn) : (s.seeing p).rxValid = s.rxValid := rfl
@[simp] theorem State.seeing_rxRaw (p : PortIn) : (s.seeing p).rxRaw = s.rxRaw := rfl
@[simp] theorem State.seeing_txValid (p : PortIn) : (s.seeing p).txValid = s.txValid := rfl
@[simp] theorem State.seeing_txRaw (p : PortIn) : (s.seeing p).txRaw = s.txRaw := rfl
@[simp] theorem State.seeing_doneR (p : PortIn) : (s.seeing p).doneR = s.doneR := rfl
@[simp] theorem State.seeing_openReq (p : PortIn) : (s.seeing p).openReq = s.openReq := rfl
@[simp] theorem State.seeing_openSpeed (p : PortIn) : (s.seeing p).openSpeed = s.openSpeed := rfl
@[simp] theorem State.seeing_closeReq (p : PortIn) : (s.seeing p).closeReq = s.closeReq := rfl
@[simp] theorem State.seeing_txStart (p : PortIn) : (s.seeing p).txStart = s.txStart := rfl
@[simp] theorem State.seeing_cfg (p : PortIn) : (s.seeing p).cfg = s.cfg := rfl
@[simp] theorem State.seeing_inputs (p : PortIn) : (s.seeing p).inputs = p :: s.inputs := rfl

@[simp] theorem State.resetEdge_cfg : s.resetEdge.cfg = s.cfg := rfl
@[simp] theorem State.resetEdge_inputs : s.resetEdge.inputs = s.inputs := rfl

@[simp] theorem State.seeing_advance (p : PortIn) : (s.seeing p).advance = s := rfl
@[simp] theorem State.seeing_sample (p : PortIn) : (s.seeing p).sample = p := rfl

@[simp] theorem State.capture_seqState (p : PortIn) : (s.capture p).seqState = s.seqState := by
  unfold State.capture; split <;> rfl
@[simp] theorem State.capture_unresp (p : PortIn) : (s.capture p).unresp = s.unresp := by
  unfold State.capture; split <;> rfl
@[simp] theorem State.capture_firstQ (p : PortIn) : (s.capture p).firstQ = s.firstQ := by
  unfold State.capture; split <;> rfl
@[simp] theorem State.capture_result (p : PortIn) : (s.capture p).result = s.result := by
  unfold State.capture; split <;> rfl
@[simp] theorem State.capture_lastHop (p : PortIn) : (s.capture p).lastHop = s.lastHop := by
  unfold State.capture; split <;> rfl
@[simp] theorem State.capture_kind (p : PortIn) : (s.capture p).kind = s.kind := by
  unfold State.capture; split <;> rfl
@[simp] theorem State.capture_tmr (p : PortIn) : (s.capture p).tmr = s.tmr := by
  unfold State.capture; split <;> rfl
@[simp] theorem State.capture_txpkt (p : PortIn) : (s.capture p).txpkt = s.txpkt := by
  unfold State.capture; split <;> rfl
@[simp] theorem State.capture_txpktValid (p : PortIn) : (s.capture p).txpktValid = s.txpktValid := by
  unfold State.capture; split <;> rfl
@[simp] theorem State.capture_fmValid (p : PortIn) : (s.capture p).fmValid = s.fmValid := by
  unfold State.capture; split <;> rfl
@[simp] theorem State.capture_fmRaw (p : PortIn) : (s.capture p).fmRaw = s.fmRaw := by
  unfold State.capture; split <;> rfl
@[simp] theorem State.capture_rxValid (p : PortIn) : (s.capture p).rxValid = s.rxValid := by
  unfold State.capture; split <;> rfl
@[simp] theorem State.capture_rxRaw (p : PortIn) : (s.capture p).rxRaw = s.rxRaw := by
  unfold State.capture; split <;> rfl
@[simp] theorem State.capture_txValid (p : PortIn) : (s.capture p).txValid = s.txValid := by
  unfold State.capture; split <;> rfl
@[simp] theorem State.capture_txRaw (p : PortIn) : (s.capture p).txRaw = s.txRaw := by
  unfold State.capture; split <;> rfl
@[simp] theorem State.capture_doneR (p : PortIn) : (s.capture p).doneR = s.doneR := by
  unfold State.capture; split <;> rfl
@[simp] theorem State.capture_openReq (p : PortIn) : (s.capture p).openReq = s.openReq := by
  unfold State.capture; split <;> rfl
@[simp] theorem State.capture_openSpeed (p : PortIn) : (s.capture p).openSpeed = s.openSpeed := by
  unfold State.capture; split <;> rfl
@[simp] theorem State.capture_closeReq (p : PortIn) : (s.capture p).closeReq = s.closeReq := by
  unfold State.capture; split <;> rfl
@[simp] theorem State.capture_txStart (p : PortIn) : (s.capture p).txStart = s.txStart := by
  unfold State.capture; split <;> rfl
@[simp] theorem State.capture_cfg (p : PortIn) : (s.capture p).cfg = s.cfg := by
  unfold State.capture; split <;> rfl
@[simp] theorem State.capture_inputs (p : PortIn) : (s.capture p).inputs = s.inputs := by
  unfold State.capture; split <;> rfl

end

end Sys2Proof.Machine
end

