-- ==== Sys2Proof/Laws/Ops.lean ====
section
/-! SUPPORT. One lemma per shared operation that says what it can do, for citing instead of unfolding. -/
namespace Sys2Proof.Machine

theorem ready_of_sessionOpen {q : SeqState} (h : sessionOpen q = true) : ready q = true := by
  cases q <;> simp_all [sessionOpen, ready]

theorem ready_iff (q : SeqState) : ready q = true ↔ q = .disconnected ∨ sessionOpen q = true := by
  cases q <;> simp [sessionOpen, ready]

theorem ne_disconnected_of_sessionOpen {q : SeqState} (h : sessionOpen q = true) : q ≠ .disconnected := by
  cases q <;> simp_all [sessionOpen]

@[simp] theorem busy_restingState (u : Bool) : busy (restingState u) = false := by cases u <;> rfl

@[simp] theorem ready_restingState (u : Bool) : ready (restingState u) = true := by cases u <;> rfl

/-- The count of captured bytes is 5 as a number exactly when it is 5 as three bits. -/
theorem count_eq_five {c : BitVec 3} : c.toNat = 5 ↔ c = 5 := by
  rw [← BitVec.toNat_inj]; rfl

/-- In a ready state a command is accepted. -/
theorem accept_of_ready {hop : Byte} {f : State → State} {s : State} (h : ready s.seqState = true) :
    accept hop f s = .next (f (s.setLastHop hop)) := by
  unfold accept; revert h; cases s.seqState <;> simp [ready]

/-- While BUSY a command is not accepted. -/
theorem accept_of_busy {hop : Byte} {f : State → State} {s : State} (h : busy s.seqState = true) :
    accept hop f s = .next s := by
  unfold accept; revert h; cases s.seqState <;> simp [busy]

theorem needSession_of_open {f : State → State} {s : State} (h : sessionOpen s.seqState = true) :
    needSession f s = f s := if_neg (ne_disconnected_of_sessionOpen h)

theorem needSession_of_disconnected {f : State → State} {s : State} (h : s.seqState = .disconnected) :
    needSession f s = s.finish .notConnected := if_pos h

theorem acceptPacket_of_open {hop : Byte} {pkt : Packet} {k : Kind} {s : State} (h : sessionOpen s.seqState = true) :
    acceptPacket hop pkt k s = .next ((s.setLastHop hop).dispatch pkt k) := by
  rw [acceptPacket, accept_of_ready (ready_of_sessionOpen h), needSession_of_open (s := s.setLastHop hop) h]

theorem acceptPacket_of_disconnected {hop : Byte} {pkt : Packet} {k : Kind} {s : State}
    (h : s.seqState = .disconnected) :
    acceptPacket hop pkt k s = .next ((s.setLastHop hop).finish .notConnected) := by
  rw [acceptPacket, accept_of_ready (by simp [h, ready]), needSession_of_disconnected (s := s.setLastHop hop) h]

theorem issuePacket_of_open {pkt : Packet} {k : Kind} {s : State} (h : sessionOpen s.seqState = true) :
    issuePacket pkt k s = .next (s.dispatch pkt k) := by
  unfold issuePacket; revert h; cases hq : s.seqState <;> simp [sessionOpen, needSession, hq]

theorem issuePacket_of_disconnected {pkt : Packet} {k : Kind} {s : State} (h : s.seqState = .disconnected) :
    issuePacket pkt k s = .next (s.finish .notConnected) := by
  unfold issuePacket; simp [needSession, h]

theorem acceptReserved_of_ready {hop : Byte} {s : State} (h : ready s.seqState = true) :
    acceptReserved hop s = .next ((s.setLastHop hop).finish .illegalCommand) := accept_of_ready h

/-- `Complete` keeps `unresp` unless a first probe ends with NO_REPLY (43_sequencer.md R183). -/
theorem completeUnresp_of_ne {s : State} {c : ResultCode} (h : c ≠ .noReply) : completeUnresp s c = s.unresp := by
  simp [completeUnresp, h]

/-- `Complete` with any code but NO_REPLY, element by element (R183). -/
theorem State.complete_eq {s : State} {c : ResultCode} (h : c ≠ .noReply) :
    s.complete c =
      { s with
        firstQ := if s.kind = .none then s.firstQ else false
        kind := .none
        seqState := restingState s.unresp
        result := resultBits c
        doneR := true } := by
  unfold State.complete State.endExchange State.finish
  rw [completeUnresp_of_ne h]

/-- A byte is stored behind those held, or nothing changes (R177). -/
theorem State.capture_cases (s : State) (p : PortIn) :
    (s.kind ≠ .none ∧ p.rxValid = true ∧ s.rxcnt.toNat < 5 ∧
      s.capture p = s.holdReply (setByte s.rxbuf p.rxData s.rxcnt.toNat) (s.rxcnt + 1)) ∨
    (¬(s.kind ≠ .none ∧ p.rxValid = true ∧ s.rxcnt.toNat < 5) ∧ s.capture p = s) := by
  have e : captures s p = true ↔ s.kind ≠ .none ∧ p.rxValid = true ∧ s.rxcnt.toNat < 5 := by
    simp only [captures, Bool.and_eq_true, decide_eq_true_eq, and_assoc]; rfl
  unfold State.capture
  split
  · next h => exact .inl ⟨(e.1 h).1, (e.1 h).2.1, (e.1 h).2.2, rfl⟩
  · next h => exact .inr ⟨fun h' => h (e.2 h'), rfl⟩

/-- The capture and the pulse defaults write different elements. -/
theorem State.pulseDefaults_capture (s : State) (p : PortIn) :
    s.pulseDefaults.capture p = (s.capture p).pulseDefaults := by
  have e : captures s.pulseDefaults p = captures s p := rfl
  unfold State.capture
  rw [e]
  split <;> rfl

/-- The capture writes the reply buffer and its count only. -/
theorem State.capture_eq (s : State) (p : PortIn) :
    s.capture p = s.holdReply (s.capture p).rxbuf (s.capture p).rxcnt := by
  unfold State.capture; split <;> rfl

/-- The buffer after a byte is stored (R177). -/
theorem getByte_setByte (p : Packet) (b : Byte) (i j : Nat) (hi : i < 5) :
    getByte (setByte p b i) j = if j = i then b else getByte p j := by
  have hi' : i = 0 ∨ i = 1 ∨ i = 2 ∨ i = 3 ∨ i = 4 := by omega
  rcases hi' with rfl | rfl | rfl | rfl | rfl <;>
    (match j with
      | 0 | 1 | 2 | 3 | 4 => rfl
      | j + 5 => simp [getByte])

/-- A packet is its five bytes. -/
theorem packet_ext_getByte {p q : Packet} (h : ∀ i, getByte p i = getByte q i) : p = q := by
  have h0 := h 0; have h1 := h 1; have h2 := h 2; have h3 := h 3; have h4 := h 4
  cases p; cases q; simp_all [getByte]

/-- What `DecodeCommit` can do (R181). -/
theorem State.decodeCommit_cases (s : State) :
    (s.kind = .fm ∧ s.decodeCommit = (s.commitFm s.rxbuf).complete .ok) ∨
    (s.kind = .rx ∧ s.decodeCommit = (s.commitRx s.rxbuf.b0).complete .ok) ∨
    (s.kind = .tx ∧ s.rxbuf.b0 = 0xFF ∧ s.decodeCommit = s.complete .notAvailable) ∨
    (s.kind = .tx ∧ s.rxbuf.b0 ≠ 0xFF ∧
      s.decodeCommit = (s.commitTx s.rxbuf.b0).complete .ok) ∨
    (s.kind = .none ∧ s.decodeCommit = s) := by
  unfold State.decodeCommit txSentinel
  cases hk : s.kind
  · simp
  · simp
  · simp
  · by_cases h : s.rxbuf.b0 = 0xFF#8 <;> simp [h]

/-- What `TimerStep` can do (R180). -/
theorem State.timerStep_cases (s : State) :
    (s.tmr.toNat ≤ 1 ∧ s.rxcnt = 0 ∧ s.timerStep = s.complete .noReply) ∨
    (s.tmr.toNat ≤ 1 ∧ s.rxcnt ≠ 0 ∧ s.timerStep = s.complete .shortRead) ∨
    (1 < s.tmr.toNat ∧ s.timerStep = s.setTimer (s.tmr - 1)) := by
  unfold State.timerStep
  split
  · by_cases h : s.rxcnt = 0 <;> simp_all
  · simp_all

/-- What a write answer can do (R178). -/
theorem State.writeAnswer_cases (s : State) (c : BitVec 3) :
    (c.toNat ≠ 5 ∧ s.writeAnswer c = s.complete .shortWrite) ∨
    (c.toNat = 5 ∧ s.kind = .none ∧ s.writeAnswer c = s.complete .ok) ∨
    (c.toNat = 5 ∧ s.kind ≠ .none ∧ s.rxcnt.toNat = 5 ∧ s.writeAnswer c = s.decodeCommit) ∨
    (c.toNat = 5 ∧ s.kind ≠ .none ∧ s.rxcnt.toNat ≠ 5 ∧
      s.writeAnswer c = (s.setTimer s.cfg.timeoutCycles).enter .awaitingReply) := by
  unfold State.writeAnswer
  by_cases h1 : c.toNat = 5 <;> by_cases h2 : s.kind = .none <;> by_cases h3 : s.rxcnt.toNat = 5 <;>
    simp [h1, h2, h3, pktLen]

/-- What `AwaitStep` can do (R179). -/
theorem State.awaitStep_cases (s : State) (p : PortIn) :
    ((s.capture p).rxcnt.toNat = 5 ∧ s.awaitStep p = (s.capture p).decodeCommit) ∨
    ((s.capture p).rxcnt.toNat ≠ 5 ∧ s.awaitStep p = (s.capture p).timerStep) := by
  unfold State.awaitStep; split <;> simp_all [pktLen]

/-- What `OpeningStep` can do (R184). -/
theorem State.openingStep_cases (s : State) (p : PortIn) :
    (p.openDone = true ∧ p.openOk = true ∧ s.openingStep p = s.startSession.finish .ok) ∨
    (p.openDone = true ∧ p.openOk = false ∧
      s.openingStep p = (s.enter .disconnected).finish .deviceUnavailable) ∨
    (p.openDone = false ∧ s.openingStep p = s) := by
  unfold State.openingStep
  cases p.openDone <;> cases p.openOk <;> simp

end Sys2Proof.Machine
end

