-- ==== Sys2Proof/Laws/PerInstr.lean ====
section
/-! SUPPORT. One fact about every instruction, constructor by constructor: its encoding lies in its own row of
spec/opcode_table.json. -/
namespace Sys2Proof

/-- One row of spec/opcode_table.json: the low byte of a host word, or `p[4]` of a packet, ANDed with `mask` is `bits`. -/
structure TableRow where
  isPacket : Bool
  mask : Byte
  bits : Byte
deriving DecidableEq, Repr

/-- The row of each constructor, as the table lists them. -/
def tableRow : Instr → TableRow
  | .connect _ => ⟨false, 0xFF, 0x01⟩
  | .disconnect _ => ⟨false, 0xFF, 0x02⟩
  | .lockOn _ => ⟨false, 0xFF, 0x03⟩
  | .lockOff _ => ⟨false, 0xFF, 0x04⟩
  | .pttOn _ => ⟨false, 0xFF, 0x05⟩
  | .pttOff _ => ⟨false, 0xFF, 0x06⟩
  | .setFreq _ => ⟨false, 0xFF, 0x07⟩
  | .setMode _ => ⟨false, 0xFF, 0x08⟩
  | .getFreqMode _ => ⟨false, 0xFF, 0x09⟩
  | .getRxStatus _ => ⟨false, 0xFF, 0x0A⟩
  | .getTxStatus _ => ⟨false, 0xFF, 0x0B⟩
  | .reserved00 _ => ⟨false, 0xFF, 0x00⟩
  | .reserved0C _ _ => ⟨false, 0xFC, 0x0C⟩
  | .reserved10 _ _ => ⟨false, 0xF0, 0x10⟩
  | .reserved20 _ _ => ⟨false, 0xE0, 0x20⟩
  | .reserved40 _ _ => ⟨false, 0xC0, 0x40⟩
  | .reserved80 _ _ => ⟨false, 0x80, 0x80⟩
  | .catLockOn => ⟨true, 0xFF, 0x00⟩
  | .catLockOff => ⟨true, 0xFF, 0x80⟩
  | .catPttOn => ⟨true, 0xFF, 0x08⟩
  | .catPttOff => ⟨true, 0xFF, 0x88⟩
  | .catSetFrequency _ => ⟨true, 0xFF, 0x01⟩
  | .catSetMode _ => ⟨true, 0xFF, 0x07⟩
  | .catGetFreqMode => ⟨true, 0xFF, 0x03⟩
  | .catGetRxStatus => ⟨true, 0xFF, 0xE7⟩
  | .catGetTxStatus => ⟨true, 0xFF, 0xF7⟩

/-- `c` lies in row `r`. -/
def inRow (r : TableRow) : Code → Prop
  | .host w => r.isPacket = false ∧ hopOf w &&& r.mask = r.bits
  | .packet p => r.isPacket = true ∧ p.b4 &&& r.mask = r.bits

/-- A host word's row is decided by its HOP (30_encoding.md R71). -/
theorem inRow_hostWord {m b hop : Byte} (arg : Word32) (h : hop &&& m = b) :
    inRow ⟨false, m, b⟩ (.host (hostWord hop arg)) := ⟨rfl, by rw [hopOf_hostWord]; exact h⟩

end Sys2Proof

/-- The encoding of `i` lies in the row of `i`. -/
def Sys2Proof.Laws.OpcodeRow.Statement (i : Sys2Proof.Instr) : Prop :=
  Sys2Proof.inRow (Sys2Proof.tableRow i) (Sys2Proof.encode i)

namespace Sys2Proof.Laws

open Sys2Proof

theorem OpcodeRow.connect (speed : Word32) : OpcodeRow.Statement (.connect speed) := inRow_hostWord speed (by decide)
theorem OpcodeRow.disconnect (arg : Word32) : OpcodeRow.Statement (.disconnect arg) := inRow_hostWord arg (by decide)
theorem OpcodeRow.lockOn (arg : Word32) : OpcodeRow.Statement (.lockOn arg) := inRow_hostWord arg (by decide)
theorem OpcodeRow.lockOff (arg : Word32) : OpcodeRow.Statement (.lockOff arg) := inRow_hostWord arg (by decide)
theorem OpcodeRow.pttOn (arg : Word32) : OpcodeRow.Statement (.pttOn arg) := inRow_hostWord arg (by decide)
theorem OpcodeRow.pttOff (arg : Word32) : OpcodeRow.Statement (.pttOff arg) := inRow_hostWord arg (by decide)
theorem OpcodeRow.setFreq (n : Word32) : OpcodeRow.Statement (.setFreq n) := inRow_hostWord n (by decide)
theorem OpcodeRow.setMode (name : Word32) : OpcodeRow.Statement (.setMode name) := inRow_hostWord name (by decide)
theorem OpcodeRow.getFreqMode (arg : Word32) : OpcodeRow.Statement (.getFreqMode arg) := inRow_hostWord arg (by decide)
theorem OpcodeRow.getRxStatus (arg : Word32) : OpcodeRow.Statement (.getRxStatus arg) := inRow_hostWord arg (by decide)
theorem OpcodeRow.getTxStatus (arg : Word32) : OpcodeRow.Statement (.getTxStatus arg) := inRow_hostWord arg (by decide)
theorem OpcodeRow.reserved00 (arg : Word32) : OpcodeRow.Statement (.reserved00 arg) := inRow_hostWord arg (by decide)
theorem OpcodeRow.reserved0C (low : BitVec 2) (arg : Word32) : OpcodeRow.Statement (.reserved0C low arg) :=
  inRow_hostWord arg (by revert low; decide)
theorem OpcodeRow.reserved10 (low : BitVec 4) (arg : Word32) : OpcodeRow.Statement (.reserved10 low arg) :=
  inRow_hostWord arg (by revert low; decide)
theorem OpcodeRow.reserved20 (low : BitVec 5) (arg : Word32) : OpcodeRow.Statement (.reserved20 low arg) :=
  inRow_hostWord arg (by revert low; decide)
theorem OpcodeRow.reserved40 (low : BitVec 6) (arg : Word32) : OpcodeRow.Statement (.reserved40 low arg) :=
  inRow_hostWord arg (by revert low; decide)
theorem OpcodeRow.reserved80 (low : BitVec 7) (arg : Word32) : OpcodeRow.Statement (.reserved80 low arg) :=
  inRow_hostWord arg (by revert low; decide)
theorem OpcodeRow.catLockOn : OpcodeRow.Statement .catLockOn := ⟨rfl, by decide⟩
theorem OpcodeRow.catLockOff : OpcodeRow.Statement .catLockOff := ⟨rfl, by decide⟩
theorem OpcodeRow.catPttOn : OpcodeRow.Statement .catPttOn := ⟨rfl, by decide⟩
theorem OpcodeRow.catPttOff : OpcodeRow.Statement .catPttOff := ⟨rfl, by decide⟩
theorem OpcodeRow.catSetFrequency (f : FreqBytes) : OpcodeRow.Statement (.catSetFrequency f) :=
  ⟨rfl, by show (0x01 : Byte) &&& 0xFF = 0x01; decide⟩
theorem OpcodeRow.catSetMode (code : Byte) : OpcodeRow.Statement (.catSetMode code) :=
  ⟨rfl, by show (0x07 : Byte) &&& 0xFF = 0x07; decide⟩
theorem OpcodeRow.catGetFreqMode : OpcodeRow.Statement .catGetFreqMode := ⟨rfl, by decide⟩
theorem OpcodeRow.catGetRxStatus : OpcodeRow.Statement .catGetRxStatus := ⟨rfl, by decide⟩
theorem OpcodeRow.catGetTxStatus : OpcodeRow.Statement .catGetTxStatus := ⟨rfl, by decide⟩

end Sys2Proof.Laws
end

