-- ==== Sys2Proof/Laws/Step.lean ====
section
/-! SUPPORT. What accepting a command can do, and what one clock edge can do: the inversion lemmas from which invariants and
frames are derived. -/
namespace Sys2Proof.Machine

/-- The shapes of an acceptance edge (43_sequencer.md R175): `s` before it, `t` after it, `hop` the word's HOP. -/
inductive Accepted (hop : Byte) (arg : Word32) (s : State) : State → Prop where
  /-- An error at the acceptance edge. -/
  | rejected (c : ResultCode)
      (hc : c = .notConnected ∨ c = .alreadyConnected ∨ c = .unknownMode ∨ c = .illegalCommand) :
      Accepted hop arg s ((s.setLastHop hop).finish c)
  /-- CONNECT without a session. -/
  | opened (hs : s.seqState = .disconnected) (hi : decodeHop hop arg = .connect arg) :
      Accepted hop arg s ((s.setLastHop hop).requestOpen arg)
  /-- DISCONNECT in a session. -/
  | closed (hs : sessionOpen s.seqState = true) (hh : hop = 0x02) :
      Accepted hop arg s ((s.setLastHop hop).closeSession.finish .ok)
  /-- A packet command in a session: the packet is a CAT row's, and that row's execution. -/
  | dispatched (pkt : Packet) (k : Kind) (i : Instr) (hs : sessionOpen s.seqState = true)
      (hh : 0x03 ≤ hop.toNat ∧ hop.toNat ≤ 0x0B) (hp : decodePacket pkt = .ok i) (hk : packetKind pkt = k)
      (hi : exec i (s.setLastHop hop) = .next ((s.setLastHop hop).dispatch pkt k)) :
      Accepted hop arg s ((s.setLastHop hop).dispatch pkt k)

theorem accepted_packet {hop : Byte} {arg : Word32} {pkt : Packet} {k : Kind} {i : Instr} {s : State}
    (hr : ready s.seqState = true) (hh : 0x03 ≤ hop.toNat ∧ hop.toNat ≤ 0x0B) (hp : decodePacket pkt = .ok i)
    (hk : packetKind pkt = k) (hi : ∀ s : State, exec i s = issuePacket pkt k s) :
    ∃ t, acceptPacket hop pkt k s = .next t ∧ Accepted hop arg s t := by
  rcases (ready_iff _).1 hr with hd | ho
  · exact ⟨_, acceptPacket_of_disconnected hd, .rejected _ (.inl rfl)⟩
  · exact ⟨_, acceptPacket_of_open ho, .dispatched _ _ i ho hh hp hk (by rw [hi]; exact issuePacket_of_open ho)⟩

theorem accepted_reserved {hop : Byte} {arg : Word32} {s : State} (hr : ready s.seqState = true) :
    ∃ t, acceptReserved hop s = .next t ∧ Accepted hop arg s t :=
  ⟨_, acceptReserved_of_ready hr, .rejected _ (.inr (.inr (.inr rfl)))⟩

theorem decodePacket_setFreq (n : Word32) : decodePacket (packetSetFreq n) = .ok (.catSetFrequency (encFreq n)) := by
  have h : (packetSetFreq n).payload = encFreq n := rfl
  unfold decodePacket
  rw [h, nonBcd_encFreq]
  simp [packetSetFreq, packetSetFreqBytes]

theorem decodePacket_setMode (t : ModeTable) (m : Mode) :
    decodePacket (packetSetMode t m) = .ok (.catSetMode (modeCode t m)) := by
  simp [decodePacket, packetSetMode, packetSetModeCode]

/-- A reserved row's HOP is its fixed bits followed by the free ones. -/
theorem hop_of_row {h l : Nat} (hl : h + l = 8) {hop : Byte} {c : BitVec h} (hc : hop.extractLsb' l h = c) :
    (c ++ hop.extractLsb' 0 l).cast hl = hop := by
  rw [← hc]; exact byte_split h l hl hop

/-- A reserved host opcode goes to the row it belongs to, and that row writes the whole HOP (R81, R211). -/
theorem exec_decodeHop_reserved {hop : Byte} (arg : Word32) (s : State) (h : hop = 0x00 ∨ 0x0C ≤ hop.toNat) :
    exec (decodeHop hop arg) s = acceptReserved hop s := by
  rcases h with rfl | hC
  · rfl
  have hne : ∀ k : Byte, k.toNat < 0x0C → ¬hop = k := by
    rintro k hk rfl; omega
  unfold decodeHop
  rw [if_neg (hne _ (by decide)), if_neg (hne _ (by decide)), if_neg (hne _ (by decide)), if_neg (hne _ (by decide)),
    if_neg (hne _ (by decide)), if_neg (hne _ (by decide)), if_neg (hne _ (by decide)), if_neg (hne _ (by decide)),
    if_neg (hne _ (by decide)), if_neg (hne _ (by decide)), if_neg (hne _ (by decide)), if_neg (hne _ (by decide))]
  by_cases rC : hop.extractLsb' 2 6 = 0b000011#6
  · rw [if_pos rC]; exact congrArg (acceptReserved · s) (hop_of_row (l := 2) rfl rC)
  by_cases r1 : hop.extractLsb' 4 4 = 0b0001#4
  · rw [if_neg rC, if_pos r1]; exact congrArg (acceptReserved · s) (hop_of_row (l := 4) rfl r1)
  by_cases r2 : hop.extractLsb' 5 3 = 0b001#3
  · rw [if_neg rC, if_neg r1, if_pos r2]; exact congrArg (acceptReserved · s) (hop_of_row (l := 5) rfl r2)
  by_cases r4 : hop.extractLsb' 6 2 = 0b01#2
  · rw [if_neg rC, if_neg r1, if_neg r2, if_pos r4]
    exact congrArg (acceptReserved · s) (hop_of_row (l := 6) rfl r4)
  have r8 : hop.extractLsb' 7 1 = 1#1 := by
    have := hop.isLt
    rw [extract_eq_iff] at *
    simp only [BitVec.toNat_ofNat, Nat.reducePow, Nat.reduceMod] at *
    omega
  rw [if_neg rC, if_neg r1, if_neg r2, if_neg r4]
  exact congrArg (acceptReserved · s) (hop_of_row (l := 7) rfl r8)

/-- Every instruction is an acceptance or an issue of a packet: what holds of those two at `s` holds of `exec`. -/
theorem exec_of_shared (i : Instr) {s : State} {o : Host.Outcome State Fault Refusal}
    (ha : ∀ hop f, accept hop f s = o) (hi : ∀ pkt k, issuePacket pkt k s = o) : exec i s = o := by
  cases i <;>
    simp only [exec, acceptPacket, acceptReserved, ha, hi, execConnect, execDisconnect, execLockOn, execLockOff, execPttOn, execPttOff, execSetFreq,
      execSetMode, execGetFreqMode, execGetRxStatus, execGetTxStatus, execReserved00,
      execReserved0C, execReserved10, execReserved20, execReserved40, execReserved80,
      execCatLockOn, execCatLockOff, execCatPttOn, execCatPttOff, execCatSetFrequency,
      execCatSetMode, execCatGetFreqMode, execCatGetRxStatus, execCatGetTxStatus]

/-- While BUSY no instruction does anything (R173). -/
theorem exec_of_busy (i : Instr) {s : State} (h : busy s.seqState = true) : exec i s = .next s := by
  have hi : ∀ pkt k, issuePacket pkt k s = .next s := by
    intro pkt k; unfold issuePacket; revert h; cases s.seqState <;> simp [busy]
  exact exec_of_shared i (fun _ _ => accept_of_busy h) hi

/-- In the unused sequencer state every instruction faults (R21). -/
theorem exec_of_unused (i : Instr) {s : State} (h : s.seqState = .unused7) : exec i s = .fault .unusedSeqState := by
  have ha : ∀ hop f, accept hop f s = .fault .unusedSeqState := by intro hop f; simp [accept, h]
  have hi : ∀ pkt k, issuePacket pkt k s = .fault .unusedSeqState := by intro pkt k; simp [issuePacket, h]
  exact exec_of_shared i ha hi

/-- What accepting any host word can do: in a ready state it always gives a next state, of one of four shapes. -/
theorem exec_decodeHop_cases (hop : Byte) (arg : Word32) (s : State) (hr : ready s.seqState = true) :
    ∃ t, exec (decodeHop hop arg) s = .next t ∧ Accepted hop arg s t := by
  by_cases h0 : hop = 0x00#8
  · subst h0; exact accepted_reserved hr
  by_cases h1 : hop = 0x01#8
  · subst h1
    rw [show exec (decodeHop 0x01#8 arg) s = execConnect arg s from rfl, execConnect, accept_of_ready hr]
    refine ⟨_, rfl, ?_⟩
    by_cases hd : s.seqState = .disconnected
    · simp only [State.setLastHop_seqState, hd, if_true]
      exact .opened hd rfl
    · simp only [State.setLastHop_seqState, hd, if_false]
      exact .rejected _ (.inr (.inl rfl))
  by_cases h2 : hop = 0x02#8
  · subst h2
    refine ⟨_, accept_of_ready hr, ?_⟩
    rcases (ready_iff _).1 hr with hd | ho
    · rw [needSession_of_disconnected (s := s.setLastHop 0x02) hd]; exact .rejected _ (.inl rfl)
    · rw [needSession_of_open (s := s.setLastHop 0x02) ho]; exact .closed ho rfl
  by_cases h3 : hop = 0x03#8
  · subst h3; exact accepted_packet (i := .catLockOn) hr (by decide) rfl rfl fun _ => rfl
  by_cases h4 : hop = 0x04#8
  · subst h4; exact accepted_packet (i := .catLockOff) hr (by decide) rfl rfl fun _ => rfl
  by_cases h5 : hop = 0x05#8
  · subst h5; exact accepted_packet (i := .catPttOn) hr (by decide) rfl rfl fun _ => rfl
  by_cases h6 : hop = 0x06#8
  · subst h6; exact accepted_packet (i := .catPttOff) hr (by decide) rfl rfl fun _ => rfl
  by_cases h7 : hop = 0x07#8
  · subst h7
    exact accepted_packet (i := .catSetFrequency (encFreq arg)) hr (by decide) (decodePacket_setFreq arg) rfl
      fun _ => rfl
  by_cases h8 : hop = 0x08#8
  · subst h8
    rw [show exec (decodeHop 0x08#8 arg) s = execSetMode arg s from rfl, execSetMode, accept_of_ready hr]
    refine ⟨_, rfl, ?_⟩
    cases modeByName arg with
    | none => exact .rejected _ (.inr (.inr (.inl rfl)))
    | some m =>
      dsimp only
      rcases (ready_iff _).1 hr with hd | ho
      · rw [needSession_of_disconnected (s := s.setLastHop 0x08) hd]; exact .rejected _ (.inl rfl)
      · rw [needSession_of_open (s := s.setLastHop 0x08) ho]
        exact .dispatched _ _ (.catSetMode (modeCode s.cfg.modeCode m)) ho (by decide)
          (decodePacket_setMode s.cfg.modeCode m) rfl (issuePacket_of_open ho)
  by_cases h9 : hop = 0x09#8
  · subst h9; exact accepted_packet (i := .catGetFreqMode) hr (by decide) rfl rfl fun _ => rfl
  by_cases hA : hop = 0x0A#8
  · subst hA; exact accepted_packet (i := .catGetRxStatus) hr (by decide) rfl rfl fun _ => rfl
  by_cases hB : hop = 0x0B#8
  · subst hB; exact accepted_packet (i := .catGetTxStatus) hr (by decide) rfl rfl fun _ => rfl
  have hn : ∀ k : Byte, hop ≠ k → hop.toNat ≠ k.toNat := fun k h e => h (BitVec.eq_of_toNat_eq e)
  have hc : 0x0C ≤ hop.toNat := by
    have := hn _ h0; have := hn _ h1; have := hn _ h2; have := hn _ h3; have := hn _ h4; have := hn _ h5
    have := hn _ h6; have := hn _ h7; have := hn _ h8; have := hn _ h9; have := hn _ hA; have := hn _ hB
    simp only [BitVec.toNat_ofNat, Nat.reducePow, Nat.reduceMod] at *
    omega
  rw [exec_decodeHop_reserved arg s (.inr hc)]
  exact accepted_reserved hr

/-- The shapes of an edge at which a command is in flight (43_sequencer.md R178 to R181): `u` is the state with the byte of
this edge captured and the pulse registers at their defaults. -/
inductive InFlight (u : State) : State → Prop where
  /-- Nothing ends and no timer moves: SENDING without an answer. -/
  | waits (hq : u.seqState = .sending) : InFlight u u
  /-- The reply timer starts. -/
  | startsTimer (hq : u.seqState = .sending) (hk : u.kind ≠ .none) (hn : u.rxcnt.toNat ≠ 5) :
      InFlight u ((u.setTimer u.cfg.timeoutCycles).enter .awaitingReply)
  /-- The reply timer counts down. -/
  | counts (hq : u.seqState = .awaitingReply) (ht : 1 < u.tmr.toNat) (hn : u.rxcnt.toNat ≠ 5) :
      InFlight u (u.setTimer (u.tmr - 1))
  /-- The command ends and commits nothing. -/
  | ends (c : ResultCode)
      (hc : (c = .ok ∧ u.kind = .none ∧ u.seqState = .sending) ∨ (c = .shortWrite ∧ u.seqState = .sending) ∨
        (c = .noReply ∧ u.seqState = .awaitingReply ∧ u.rxcnt = 0) ∨
        (c = .shortRead ∧ u.seqState = .awaitingReply ∧ u.rxcnt ≠ 0) ∨
        (c = .notAvailable ∧ u.kind = .tx ∧ u.rxcnt.toNat = 5 ∧ u.rxbuf.b0 = 0xFF)) :
      InFlight u (u.complete c)
  /-- A frequency/mode reply is committed. -/
  | commitsFm (hk : u.kind = .fm) (hn : u.rxcnt.toNat = 5) : InFlight u ((u.commitFm u.rxbuf).complete .ok)
  /-- An RX status reply is committed. -/
  | commitsRx (hk : u.kind = .rx) (hn : u.rxcnt.toNat = 5) : InFlight u ((u.commitRx u.rxbuf.b0).complete .ok)
  /-- A TX status reply is committed. -/
  | commitsTx (hk : u.kind = .tx) (hn : u.rxcnt.toNat = 5) (hb : u.rxbuf.b0 ≠ 0xFF) :
      InFlight u ((u.commitTx u.rxbuf.b0).complete .ok)
  /-- AWAITING_REPLY without a query, which no run reaches. -/
  | idles (hq : u.seqState = .awaitingReply) (hk : u.kind = .none) : InFlight u u

theorem decodeCommit_inFlight {u : State} (hn : u.rxcnt.toNat = 5)
    (h : u.kind ≠ .none ∨ u.seqState = .awaitingReply) : InFlight u u.decodeCommit := by
  rcases u.decodeCommit_cases with ⟨k, e⟩ | ⟨k, e⟩ | ⟨k, b, e⟩ | ⟨k, b, e⟩ | ⟨k, e⟩ <;> rw [e]
  · exact .commitsFm k hn
  · exact .commitsRx k hn
  · exact .ends _ (.inr (.inr (.inr (.inr ⟨rfl, k, hn, b⟩))))
  · exact .commitsTx k hn b
  · rcases h with h | h
    · exact absurd k h
    · exact .idles h k

/-- What an edge in SENDING can do (R178). -/
theorem sendingStep_inFlight {s : State} (p : PortIn) (hq : s.seqState = .sending) :
    InFlight (s.capture p) (s.sendingStep p) := by
  have hq : (s.capture p).seqState = .sending := by simpa using hq
  unfold State.sendingStep
  split
  · rcases (s.capture p).writeAnswer_cases p.txCount with ⟨_, e⟩ | ⟨_, k, e⟩ | ⟨_, k, n, e⟩ | ⟨_, k, n, e⟩ <;> rw [e]
    · exact .ends _ (.inr (.inl ⟨rfl, hq⟩))
    · exact .ends _ (.inl ⟨rfl, k, hq⟩)
    · exact decodeCommit_inFlight n (.inl k)
    · exact .startsTimer hq k n
  · exact .waits hq

/-- What an edge in AWAITING_REPLY can do (R179, R180). -/
theorem awaitStep_inFlight {s : State} (p : PortIn) (hq : s.seqState = .awaitingReply) :
    InFlight (s.capture p) (s.awaitStep p) := by
  have hq : (s.capture p).seqState = .awaitingReply := by simpa using hq
  rcases s.awaitStep_cases p with ⟨n, e⟩ | ⟨n, e⟩ <;> rw [e]
  · exact decodeCommit_inFlight n (.inr hq)
  · rcases (s.capture p).timerStep_cases with ⟨_, z, e⟩ | ⟨_, z, e⟩ | ⟨t, e⟩ <;> rw [e]
    · exact .ends _ (.inr (.inr (.inl ⟨rfl, hq, z⟩)))
    · exact .ends _ (.inr (.inr (.inr (.inl ⟨rfl, hq, z⟩))))
    · exact .counts hq t n

/-- The shapes of one clock edge that gives a next state (R172): `p` the sample, `s` before it, `t` after it. -/
inductive Edge (p : PortIn) (s : State) : State → Prop where
  | reset (h : p.rst = true) : Edge p s s.resetEdge
  | still (h : p.rst = false) (hr : ready s.seqState = true) (hv : p.cmdValid = false) : Edge p s s.pulseDefaults
  | accepted (t : State) (h : p.rst = false) (hr : ready s.seqState = true) (hv : p.cmdValid = true)
      (ha : Accepted (hopOf p.cmdWord) (argOf p.cmdWord) s.pulseDefaults t) : Edge p s t
  | opening (h : p.rst = false) (hq : s.seqState = .opening) : Edge p s (s.pulseDefaults.openingStep p)
  | inFlight (t : State) (h : p.rst = false) (hq : s.seqState = .sending ∨ s.seqState = .awaitingReply)
      (ht : InFlight (s.pulseDefaults.capture p) t) : Edge p s t

theorem readyStep_cases {p : PortIn} {s t : State} (h : p.rst = false) (hr : ready s.seqState = true)
    (ht : readyStep p s.pulseDefaults = .next t) : Edge p s t := by
  unfold readyStep at ht
  split at ht
  · next hv =>
    obtain ⟨t', he, ha⟩ := exec_decodeHop_cases (hopOf p.cmdWord) (argOf p.cmdWord) s.pulseDefaults hr
    rw [decodeHost, he] at ht
    cases ht
    exact .accepted _ h hr hv ha
  · next hv => cases ht; exact .still h hr (by simpa using hv)

/-- What one edge can do. -/
theorem clockEdge_cases {p : PortIn} {s t : State} (ht : clockEdge p s = .next t) : Edge p s t := by
  unfold clockEdge at ht
  split at ht
  · next h => cases ht; exact .reset h
  split at ht
  · cases ht
  next h _ =>
  have h : p.rst = false := by simpa using h
  split at ht
  · next hq => exact readyStep_cases h (by rw [hq]; rfl) ht
  · next hq => exact readyStep_cases h (by rw [hq]; rfl) ht
  · next hq => exact readyStep_cases h (by rw [hq]; rfl) ht
  · next hq => exact readyStep_cases h (by rw [hq]; rfl) ht
  · next hq => cases ht; exact .opening h hq
  · next hq => cases ht; exact .inFlight _ h (.inl hq) (sendingStep_inFlight p hq)
  · next hq => cases ht; exact .inFlight _ h (.inr hq) (awaitStep_inFlight p hq)
  · cases ht

/-- What one step can do. -/
theorem step_cases {s t : State} (ht : step s = .next t) :
    configWf s.cfg = true ∧ Edge s.sample s.advance t := by
  unfold step at ht
  split at ht
  · next h => exact ⟨h, clockEdge_cases ht⟩
  · cases ht

/-- The step at a state with `p` on its ports. -/
theorem step_seeing (s : State) (p : PortIn) :
    step (s.seeing p) = if configWf s.cfg then clockEdge p s else .refused .illFormedConfig := rfl

theorem step_seeing_cases {s t : State} {p : PortIn} (ht : step (s.seeing p) = .next t) : Edge p s t :=
  (step_cases ht).2

/-- An edge that is clocked, by the phase it meets (R172). -/
theorem step_of_clocked {s : State} {p : PortIn} (h : s.Clocked p) :
    step (s.seeing p) =
      match s.seqState with
      | .disconnected | .connected | .idle | .unresponsive => readyStep p s.pulseDefaults
      | .opening => .next (s.pulseDefaults.openingStep p)
      | .sending => .next (s.pulseDefaults.sendingStep p)
      | .awaitingReply => .next (s.pulseDefaults.awaitStep p)
      | .unused7 => .fault .unusedSeqState := by
  have hd : (s.doneR && decide (10 ≤ s.result.toNat)) = false := by
    have := h.doneCode
    cases hR : s.doneR
    · rfl
    · have := this hR; simp; omega
  rw [step_seeing, h.params, clockEdge, h.rstLow, hd]
  rfl

theorem step_of_ready {s : State} {p : PortIn} (h : s.Clocked p) (hr : ready s.seqState = true) :
    step (s.seeing p) = readyStep p s.pulseDefaults := by
  rw [step_of_clocked h]; revert hr; cases s.seqState <;> simp [ready]

theorem step_of_opening {s : State} {p : PortIn} (h : s.Clocked p) (hq : s.seqState = .opening) :
    step (s.seeing p) = .next (s.pulseDefaults.openingStep p) := by
  rw [step_of_clocked h, hq]

theorem step_of_sending {s : State} {p : PortIn} (h : s.Clocked p) (hq : s.seqState = .sending) :
    step (s.seeing p) = .next (s.pulseDefaults.sendingStep p) := by
  rw [step_of_clocked h, hq]

theorem step_of_awaiting {s : State} {p : PortIn} (h : s.Clocked p) (hq : s.seqState = .awaitingReply) :
    step (s.seeing p) = .next (s.pulseDefaults.awaitStep p) := by
  rw [step_of_clocked h, hq]

/-- A run one edge longer. -/
theorem run_succ (n : Nat) (s : State) :
    Host.Core.run Sys2Proof.core (n + 1) s =
      match step s with
      | .next t => Host.Core.run Sys2Proof.core n t
      | .fault r => .fault r
      | .refused r => .refused r := by
  refine (Host.Core.run.eq_def Sys2Proof.core (n + 1) s).trans ?_
  cases hs : step s <;>
    (have hc : Sys2Proof.core.step s = _ := hs
     simp only [hc])

theorem run_succ_of_next {n : Nat} {s t : State} (h : step s = .next t) :
    Host.Core.run Sys2Proof.core (n + 1) s = Host.Core.run Sys2Proof.core n t := by
  rw [run_succ, h]

/-- A state is itself with its sample put back. -/
theorem State.eq_seeing {s : State} {p : PortIn} {l : List PortIn} (h : s.inputs = p :: l) :
    s = ({ s with inputs := l } : State).seeing p := by
  cases s; simp_all [State.seeing]

end Sys2Proof.Machine
end

