-- ==== Sys2Proof/Laws/Run.lean ====
section
/-! SUPPORT. The account of a run: what one edge does to it, and that it agrees with the sequencer's state. -/
namespace Sys2Proof.Machine

section
variable (a : RunAccount) (s t : State)

@[simp] theorem RunAccount.edge_opensAsked : (a.edge s t).opensAsked = a.opensAsked + t.openReq.toNat := rfl
@[simp] theorem RunAccount.edge_opensAnswered :
    (a.edge s t).opensAnswered = a.opensAnswered + (s.sample.openDone && a.opensOwed).toNat := rfl
@[simp] theorem RunAccount.edge_writesAsked : (a.edge s t).writesAsked = a.writesAsked + t.txStart.toNat := rfl
@[simp] theorem RunAccount.edge_writesAnswered :
    (a.edge s t).writesAnswered = a.writesAnswered + (s.sample.txDone && a.writesOwed).toNat := rfl
@[simp] theorem RunAccount.edge_waiting :
    (a.edge s t).waiting = if s.sample.cmdValid && !accepts s then some s.sample.cmdWord else none := rfl
@[simp] theorem RunAccount.edge_withdrawn : (a.edge s t).withdrawn = a.withdrawn + (a.withdraws s.sample).toNat := rfl
@[simp] theorem RunAccount.edge_inFlight : (a.edge s t).inFlight = ((a.inFlight || accepts s) && !t.doneR) := rfl
@[simp] theorem RunAccount.edge_stopped : (a.edge s t).stopped = a.stopped := rfl

end

theorem follow_succ_of_next {n : Nat} {s t : State} {a : RunAccount} (h : step s = .next t) :
    follow (n + 1) s a = follow n t (a.edge s t) := by
  rw [follow, h]

/-- Where a run goes on, the account is followed to the state that the run reaches. -/
theorem follow_of_run (n : Nat) : ∀ {s t : State} (a : RunAccount),
    Host.Core.run Sys2Proof.core n s = .next t → (follow n s a).1 = t := by
  induction n with
  | zero => intro s t a h; exact Host.Outcome.next.inj h
  | succ n ih =>
    intro s t a h
    rw [run_succ] at h
    split at h
    · next u hu => rw [follow_succ_of_next hu]; exact ih _ h
    · cases h
    · cases h

/-- A run that is not in a ready state has not ended (R273, condition 3). -/
theorem runEnded_of_busy {n : Nat} {s t : State} (h : Host.Core.run Sys2Proof.core n s = .next t)
    (hb : ready t.seqState = false) : s.runEnded n = false := by
  simp only [State.runEnded, follow_of_run n _ h, hb, Bool.and_false, Bool.false_and]

/-- The account agrees with the sequencer: nothing is answered that was not asked for, and the request that OPENING or SENDING
waits on is owed. -/
structure RunAccount.Agrees (a : RunAccount) (s : State) : Prop where
  opens : a.opensAnswered ≤ a.opensAsked
  writes : a.writesAnswered ≤ a.writesAsked
  openOwed : s.seqState = .opening → a.opensAnswered < a.opensAsked
  writeOwed : s.seqState = .sending → a.writesAnswered < a.writesAsked

theorem RunAccount.start_agrees (s : State) : (RunAccount.start s).Agrees s := by
  constructor <;> simp +contextual [RunAccount.start]

/-- A write answer takes the sequencer out of SENDING (R178). -/
theorem sendingStep_leaves {s : State} {p : PortIn} (hd : p.txDone = true) :
    (s.sendingStep p).seqState ≠ .sending := by
  have hr (u : Bool) : restingState u ≠ .sending := by cases u <;> decide
  rw [State.sendingStep, if_pos hd]
  rcases (s.capture p).writeAnswer_cases p.txCount with ⟨_, e⟩ | ⟨_, _, e⟩ | ⟨_, k, _, e⟩ | ⟨_, _, _, e⟩ <;> rw [e]
  · exact hr _
  · exact hr _
  · rcases (s.capture p).decodeCommit_cases with ⟨_, e⟩ | ⟨_, e⟩ | ⟨_, _, e⟩ | ⟨_, _, e⟩ | ⟨k', _⟩
    · rw [e]; exact hr _
    · rw [e]; exact hr _
    · rw [e]; exact hr _
    · rw [e]; exact hr _
    · exact absurd k' k
  · exact SeqState.noConfusion

/-- What an edge of a command in flight leaves is neither OPENING, nor SENDING unless it stays there. -/
theorem InFlight.leaves {u t : State} (h : InFlight u t) :
    t.seqState ≠ .opening ∧ (t.seqState = .sending → u.seqState = .sending) := by
  have hr (b : Bool) : restingState b ≠ .opening ∧ restingState b ≠ .sending := by cases b <;> decide
  cases h with
  | waits hq | idles hq _ => simp [hq]
  | startsTimer => simp
  | counts hq _ _ => simp [hq]
  | ends c _ => exact ⟨(hr _).1, fun e => absurd e (hr _).2⟩
  | commitsFm | commitsRx | commitsTx => exact ⟨(hr _).1, fun e => absurd e (hr _).2⟩

/-- The edge of a write request is `SendingStep()` (R178). -/
theorem step_in_sending {s t : State} (h : step s = .next t) (hr : s.sample.rst = false) (hq : s.seqState = .sending) :
    t = s.advance.pulseDefaults.sendingStep s.sample := by
  unfold step clockEdge at h
  simp only [hr, State.advance_seqState, hq] at h
  split at h
  · simp only [Bool.false_eq_true, if_false] at h
    split at h <;> cases h
    rfl
  · cases h

/-- An edge that ends in OPENING or SENDING has asked for what it waits on, or still waits on it. -/
theorem waits_or_asks {s t : State} (h : step s = .next t) :
    (t.seqState = .opening → t.openReq = true ∨ (s.seqState = .opening ∧ s.sample.openDone = false)) ∧
    (t.seqState = .sending → t.txStart = true ∨ (s.seqState = .sending ∧ s.sample.txDone = false)) := by
  cases (step_cases h).2 with
  | reset => exact ⟨nofun, nofun⟩
  | still hr hy _ =>
    rw [State.pulseDefaults_seqState, State.advance_seqState]
    rw [State.advance_seqState] at hy
    constructor <;> intro e <;> rw [e] at hy <;> cases hy
  | accepted _ _ hy _ ha =>
    rw [State.advance_seqState] at hy
    cases ha with
    | rejected =>
      constructor <;> intro e <;> simp only [State.finish_seqState, State.setLastHop_seqState,
        State.pulseDefaults_seqState, State.advance_seqState] at e <;> rw [e] at hy <;> cases hy
    | opened => exact ⟨fun _ => .inl rfl, nofun⟩
    | closed => exact ⟨nofun, nofun⟩
    | dispatched => exact ⟨nofun, fun _ => .inl rfl⟩
  | opening _ hq =>
    rw [State.advance_seqState] at hq
    rcases s.advance.pulseDefaults.openingStep_cases s.sample with ⟨_, _, e⟩ | ⟨_, _, e⟩ | ⟨d, e⟩ <;> rw [e]
    · exact ⟨nofun, nofun⟩
    · exact ⟨nofun, nofun⟩
    · exact ⟨fun _ => .inr ⟨hq, d⟩, fun e => by simp [hq] at e⟩
  | inFlight _ hr hq ht =>
    refine ⟨fun e => absurd e ht.leaves.1, fun e => .inr ?_⟩
    have hs : s.seqState = .sending := by simpa using ht.leaves.2 e
    cases hd : s.sample.txDone
    · exact ⟨hs, rfl⟩
    · exact absurd e (step_in_sending h hr hs ▸ sendingStep_leaves hd)

/-- Every edge keeps the agreement. -/
theorem RunAccount.edge_agrees {a : RunAccount} {s t : State} (ha : a.Agrees s) (h : step s = .next t) :
    (a.edge s t).Agrees t := by
  have hw := waits_or_asks h
  have ho := ha.opens
  have hs := ha.writes
  constructor
  · rw [edge_opensAsked, edge_opensAnswered, RunAccount.opensOwed]
    by_cases hlt : a.opensAnswered < a.opensAsked <;> cases s.sample.openDone <;> simp [hlt] <;> omega
  · rw [edge_writesAsked, edge_writesAnswered, RunAccount.writesOwed]
    by_cases hlt : a.writesAnswered < a.writesAsked <;> cases s.sample.txDone <;> simp [hlt] <;> omega
  · intro hq
    rw [edge_opensAsked, edge_opensAnswered, RunAccount.opensOwed]
    rcases hw.1 hq with e | ⟨e, d⟩
    · by_cases hlt : a.opensAnswered < a.opensAsked <;> cases s.sample.openDone <;> simp [hlt, e] <;> omega
    · have := ha.openOwed e
      simp [d]; omega
  · intro hq
    rw [edge_writesAsked, edge_writesAnswered, RunAccount.writesOwed]
    rcases hw.2 hq with e | ⟨e, d⟩
    · by_cases hlt : a.writesAnswered < a.writesAsked <;> cases s.sample.txDone <;> simp [hlt, e] <;> omega
    · have := ha.writeOwed e
      simp [d]; omega

/-- Along every run the account agrees with the state. -/
theorem follow_agrees (n : Nat) : ∀ (s : State) (a : RunAccount), a.Agrees s →
    (follow n s a).2.Agrees (follow n s a).1 := by
  induction n with
  | zero => exact fun _ _ h => h
  | succ n ih =>
    intro s a h
    unfold follow
    split
    · next t ht => exact ih t _ (RunAccount.edge_agrees h ht)
    · exact ⟨h.opens, h.writes, h.openOwed, h.writeOwed⟩
    · exact ⟨h.opens, h.writes, h.openOwed, h.writeOwed⟩

end Sys2Proof.Machine
end

