-- ==== Sys2Proof/Tests/Slice0.lean ====
section
/-! SUPPORT. The model's own tests: well-formedness, decoding of words written out from the spec, single edges with values of
spec/95_test_vectors.md (named L1, L2, P1 to P4 as there), and for every statement with hypotheses a concrete case that meets
them (the theorems `witness_*`). -/
namespace Sys2Proof.Tests

open Sys2Proof Sys2Proof.Machine

/-! ### Helpers -/

/-- The next state of an outcome. -/
def nextOf (o : Host.Outcome State Fault Refusal) : Option State :=
  match o with
  | .next t => some t
  | .fault _ => none
  | .refused _ => none

theorem eq_next {o : Host.Outcome State Fault Refusal} {t : State} (h : nextOf o = some t) : o = .next t := by
  unfold nextOf at h
  split at h <;> simp_all

/-- The state after one edge with `p` on the ports; `s` itself where it stops. -/
def after (s : State) (p : PortIn) : State := (nextOf (step (s.seeing p))).getD s

/-- What decoding answers, as an Option. -/
def okOf (r : Except DecodeError Instr) : Option Instr :=
  match r with
  | .ok i => some i
  | .error _ => none

def errOf (r : Except DecodeError Instr) : Option DecodeError :=
  match r with
  | .ok _ => none
  | .error e => some e

/-- Reset with TIMEOUT_CYCLES = `t` and the default MODE_CODE, as the vectors have it. -/
def start (t : Word32) : State := { State.reset with cfg := ⟨t, defaultModeCode⟩ }

/-- A session just opened (2.7, the common prefix): SEQ = 00010022. -/
def session (t : Word32) : State :=
  { start t with seqState := .connected, firstQ := true, result := 0, lastHop := 0x01, openSpeed := 0x2580 }

/-- An opening in progress. -/
def opening : State := { start 4 with seqState := .opening, lastHop := 0x01, openSpeed := 0x2580 }

/-- A query or pure command in SENDING, with `n` bytes captured. -/
def sending (k : Kind) (op : Byte) (n : BitVec 3) (buf : Packet) : State :=
  { session 4 with seqState := .sending, kind := k, txpkt := ⟨0, 0, 0, 0, op⟩, txpktValid := true, rxcnt := n, rxbuf := buf }

/-- A query in AWAITING_REPLY, with `n` bytes captured and the timer at `t`. -/
def awaiting (k : Kind) (op : Byte) (n : BitVec 3) (buf : Packet) (t : Word32) : State :=
  { sending k op n buf with seqState := .awaitingReply, tmr := t }

/-- Ports: a word offered, an open answer, a write answer, a byte. -/
def offer (w : HostWord) : PortIn := { PortIn.quiet with cmdValid := true, cmdWord := w }
def openAnswer (ok : Bool) : PortIn := { PortIn.quiet with openDone := true, openOk := ok }
def written (n : BitVec 3) : PortIn := { PortIn.quiet with txDone := true, txCount := n }
def byteIn (b : Byte) : PortIn := { PortIn.quiet with rxValid := true, rxData := b }
def resetIn : PortIn := { PortIn.quiet with rst := true }

/-! ### Well-formedness -/

theorem test_wf_byte0 : (Instr.catSetFrequency ⟨0xA0, 0, 0, 0⟩).wf = false ∧
    (Instr.catSetFrequency ⟨0x0A, 0, 0, 0⟩).wf = false := by decide
theorem test_wf_byte1 : (Instr.catSetFrequency ⟨0, 0xF9, 0, 0⟩).wf = false ∧
    (Instr.catSetFrequency ⟨0, 0x9F, 0, 0⟩).wf = false := by decide
theorem test_wf_byte2 : (Instr.catSetFrequency ⟨0, 0, 0xB1, 0⟩).wf = false ∧
    (Instr.catSetFrequency ⟨0, 0, 0x1B, 0⟩).wf = false := by decide
theorem test_wf_byte3 : (Instr.catSetFrequency ⟨0, 0, 0, 0xA9⟩).wf = false ∧
    (Instr.catSetFrequency ⟨0, 0, 0, 0x9A⟩).wf = false := by decide
theorem test_wf_accepts : (Instr.catSetFrequency ⟨0x99, 0x99, 0x99, 0x99⟩).wf = true := by decide
/-- R8: TIMEOUT_CYCLES = 0, and a MODE_CODE with two equal codes. -/
theorem test_config_wf : configWf ⟨0, defaultModeCode⟩ = false ∧
    configWf ⟨4, { defaultModeCode with pkt := 0x88 }⟩ = false ∧ configWf ⟨4, defaultModeCode⟩ = true := by decide
theorem test_config_of_clock : configOfClock 0 defaultModeCode = none ∧
    configOfClock 1431655766 defaultModeCode = none ∧
    configOfClock 1431655765 defaultModeCode = some ⟨0xFFFFFFFF, defaultModeCode⟩ := by decide

/-! ### Decoding, each word written out from R80, R81 or R76 -/

theorem test_decode_connect : decodeHost 0x0000960001 = .connect 38400 := by decide
theorem test_decode_disconnect : decodeHost 0x0000000002 = .disconnect 0 := by decide
theorem test_decode_lockOn : decodeHost 0xDEADBEEF03 = .lockOn 0xDEADBEEF := by decide
theorem test_decode_lockOff : decodeHost 0x0000000004 = .lockOff 0 := by decide
theorem test_decode_pttOn : decodeHost 0x0000000005 = .pttOn 0 := by decide
theorem test_decode_pttOff : decodeHost 0x0000000006 = .pttOff 0 := by decide
theorem test_decode_setFreq : decodeHost 0x0015C05C07 = .setFreq 1425500 := by decide
theorem test_decode_setMode : decodeHost 0x464D4E0008 = .setMode 0x464D4E00 := by decide
theorem test_decode_getFreqMode : decodeHost 0x0000000009 = .getFreqMode 0 := by decide
theorem test_decode_getRxStatus : decodeHost 0x000000000A = .getRxStatus 0 := by decide
theorem test_decode_getTxStatus : decodeHost 0x000000000B = .getTxStatus 0 := by decide
theorem test_decode_reserved00 : decodeHost 0x0000000000 = .reserved00 0 := by decide
theorem test_decode_reserved0C : decodeHost 0x000000000C = .reserved0C 0 0 ∧
    decodeHost 0x000000000F = .reserved0C 3 0 := by decide
theorem test_decode_reserved10 : decodeHost 0x0000000010 = .reserved10 0 0 ∧
    decodeHost 0x000000001F = .reserved10 15 0 := by decide
theorem test_decode_reserved20 : decodeHost 0x0000000020 = .reserved20 0 0 ∧
    decodeHost 0x000000003F = .reserved20 31 0 := by decide
theorem test_decode_reserved40 : decodeHost 0x0000000040 = .reserved40 0 0 ∧
    decodeHost 0x000000007F = .reserved40 63 0 := by decide
theorem test_decode_reserved80 : decodeHost 0x0000000080 = .reserved80 0 0 ∧
    decodeHost 0xFFFFFFFFFF = .reserved80 127 0xFFFFFFFF := by decide
theorem test_decode_catLockOn : okOf (decodePacket ⟨0, 0, 0, 0, 0x00⟩) = some .catLockOn := by decide
theorem test_decode_catLockOff : okOf (decodePacket ⟨0, 0, 0, 0, 0x80⟩) = some .catLockOff := by decide
theorem test_decode_catPttOn : okOf (decodePacket ⟨0, 0, 0, 0, 0x08⟩) = some .catPttOn := by decide
theorem test_decode_catPttOff : okOf (decodePacket ⟨0, 0, 0, 0, 0x88⟩) = some .catPttOff := by decide
theorem test_decode_catSetFrequency :
    okOf (decodePacket ⟨0x14, 0x40, 0x00, 0x00, 0x01⟩) = some (.catSetFrequency ⟨0x14, 0x40, 0, 0⟩) := by decide
theorem test_decode_catSetMode : okOf (decodePacket ⟨0x88, 0, 0, 0, 0x07⟩) = some (.catSetMode 0x88) := by decide
theorem test_decode_catGetFreqMode : okOf (decodePacket ⟨0, 0, 0, 0, 0x03⟩) = some .catGetFreqMode := by decide
theorem test_decode_catGetRxStatus : okOf (decodePacket ⟨0, 0, 0, 0, 0xE7⟩) = some .catGetRxStatus := by decide
theorem test_decode_catGetTxStatus : okOf (decodePacket ⟨0, 0, 0, 0, 0xF7⟩) = some .catGetTxStatus := by decide
theorem test_reject_unknown_opcode :
    errOf (decodePacket ⟨0, 0, 0, 0, 0x55⟩) = some (.unknownOpcode 0x55) := by decide
theorem test_reject_padding : errOf (decodePacket ⟨0, 1, 0, 0, 0x07⟩) = some (.nonzeroPadding 0x07) ∧
    errOf (decodePacket ⟨1, 0, 0, 0, 0x00⟩) = some (.nonzeroPadding 0x00) := by decide
theorem test_reject_non_bcd : errOf (decodePacket ⟨0x01, 0x4A, 0x50, 0x00, 0x01⟩) = some .nonBcdFrequency := by decide
/-- R58: four bytes are no packet; R87: the sixth byte is the next packet's. -/
theorem test_stream : (match decodeBytes [0, 0, 0, 0] with
      | .error e => decide (e = .shortPacket 4)
      | .ok _ => false) = true ∧
    (match decodeBytes [0, 0, 0, 0, 0xE7, 0x33] with
      | .ok r => decide (r = (.catGetRxStatus, [0x33]))
      | .error _ => false) = true := by decide
theorem test_table_word : decodeTableWord 8 0x0B = some (.getTxStatus 0) ∧ decodeTableWord 8 0x3F = some (.reserved20 31 0) ∧
    decodeTableWord 40 0x0000960001 = some (.connect 38400) := by decide

/-! ### One edge per instruction -/

/-- P1: `open_speed` = 00009600 after E1, in OPENING. -/
theorem test_connect : (nextOf (exec (.connect 38400) (start 10))).map (fun t => (t.openReq, t.openSpeed, t.seqState)) =
    some (true, 0x00009600, .opening) := by decide
/-- P3, command 6: SEQ 00010822 and no second open. -/
theorem test_connect_again :
    (nextOf (exec (.connect 4800) (session 10))).map (fun t => (stsRead t 0, t.openReq, t.openSpeed)) =
      some (0x00010822, false, 0x2580) := by decide
/-- P2, command 5: DISCONNECT from UNRESPONSIVE, SEQ 00020010. -/
theorem test_disconnect :
    (nextOf (exec (.disconnect 0) { session 10 with seqState := .unresponsive, unresp := true, firstQ := false })).map
      (fun t => (stsRead t 0, t.closeReq)) = some (0x00020010, true) := by decide
/-- L2-S0: SEQ 00020700, no `close_req`. -/
theorem test_disconnect_without_session :
    (nextOf (exec (.disconnect 0) (start 4))).map (fun t => (stsRead t 0, t.closeReq)) = some (0x00020700, false) := by decide
/-- 2.2: TXPKT_HI after each packet. -/
theorem test_lockOn : (nextOf (exec (.lockOn 0xDEADBEEF) (session 4))).map (fun t => (stsRead t 6, t.txStart)) =
    some (0x80000000, true) := by decide
theorem test_lockOff : (nextOf (exec (.lockOff 0) (session 4))).map (fun t => stsRead t 6) = some 0x80000080 := by decide
theorem test_pttOn : (nextOf (exec (.pttOn 0) (session 4))).map (fun t => stsRead t 6) = some 0x80000008 := by decide
theorem test_pttOff : (nextOf (exec (.pttOff 0) (session 4))).map (fun t => stsRead t 6) = some 0x80000088 := by decide
/-- 2.2: SET_FREQ 123456789, and L2-F12 for 2^32 - 1. -/
theorem test_setFreq : (nextOf (exec (.setFreq 123456789) (session 4))).map (fun t => (stsRead t 5, stsRead t 6)) =
    some (0x23456789, 0x80000001) := by decide
theorem test_setFreq_max : (nextOf (exec (.setFreq 0xFFFFFFFF) (session 4))).map (fun t => stsRead t 5) =
    some 0x94967295 := by decide
/-- 2.2: SET_MODE "FMN" under the default table. -/
theorem test_setMode : (nextOf (exec (.setMode 0x464D4E00) (session 4))).map (fun t => (stsRead t 5, stsRead t 6)) =
    some (0x88000000, 0x80000007) := by decide
/-- P3, command 2: UNKNOWN_MODE comes before NOT_CONNECTED. -/
theorem test_setMode_unknown : (nextOf (exec (.setMode 0x58595A00) (start 10))).map (fun t => (stsRead t 0, t.txStart)) =
    some (0x00080500, false) := by decide
/-- 2.2, and the reply capture armed (R176). -/
theorem test_getFreqMode :
    (nextOf (exec (.getFreqMode 0) { session 4 with rxcnt := 3, rxbuf := ⟨1, 2, 3, 0, 0⟩ })).map
      (fun t => (stsRead t 6, t.rxcnt, t.rxbuf)) = some (0x80000003, 0, ⟨0, 0, 0, 0, 0⟩) := by decide
theorem test_getRxStatus : (nextOf (exec (.getRxStatus 0) (session 4))).map (fun t => (stsRead t 6, t.kind)) =
    some (0x800000E7, .rx) := by decide
theorem test_getTxStatus : (nextOf (exec (.getTxStatus 0) (session 4))).map (fun t => (stsRead t 6, t.kind)) =
    some (0x800000F7, .tx) := by decide
/-- L2-S16: SEQ 00000922; P3, command 3: SEQ 000C0900. -/
theorem test_reserved00 : (nextOf (exec (.reserved00 0) (session 4))).map (fun t => stsRead t 0) =
    some 0x00000922 := by decide
theorem test_reserved0C : (nextOf (exec (.reserved0C 0 0) (start 10))).map (fun t => stsRead t 0) =
    some 0x000C0900 := by decide
/-- R81: `last_hop` is the whole HOP. -/
theorem test_reserved_rest : (nextOf (exec (.reserved10 5 0) (start 10))).map (fun t => stsRead t 0) = some 0x00150900 ∧
    (nextOf (exec (.reserved20 31 0) (start 10))).map (fun t => stsRead t 0) = some 0x003F0900 ∧
    (nextOf (exec (.reserved40 1 0) (start 10))).map (fun t => stsRead t 0) = some 0x00410900 ∧
    (nextOf (exec (.reserved80 127 0) (start 10))).map (fun t => stsRead t 0) = some 0x00FF0900 := by decide
/-- The nine CAT rows: `tx_data` is the packet, byte 0 in [39:32] (R170). -/
theorem test_cat_pure : (nextOf (exec .catLockOn (session 4))).map (fun t => (outputs t 0).txData) = some 0x0000000000 ∧
    (nextOf (exec .catLockOff (session 4))).map (fun t => (outputs t 0).txData) = some 0x0000000080 ∧
    (nextOf (exec .catPttOn (session 4))).map (fun t => (outputs t 0).txData) = some 0x0000000008 ∧
    (nextOf (exec .catPttOff (session 4))).map (fun t => (outputs t 0).txData) = some 0x0000000088 := by decide
theorem test_cat_operands :
    (nextOf (exec (.catSetFrequency ⟨0x01, 0x42, 0x55, 0x00⟩) (session 4))).map (fun t => (outputs t 0).txData) =
      some 0x0142550001 ∧
    (nextOf (exec (.catSetMode 0x88) (session 4))).map (fun t => (outputs t 0).txData) = some 0x8800000007 := by decide
theorem test_cat_queries :
    (nextOf (exec .catGetFreqMode (session 4))).map (fun t => ((outputs t 0).txData, t.kind)) = some (0x0000000003, .fm) ∧
    (nextOf (exec .catGetRxStatus (session 4))).map (fun t => ((outputs t 0).txData, t.kind)) = some (0x00000000E7, .rx) ∧
    (nextOf (exec .catGetTxStatus (session 4))).map (fun t => ((outputs t 0).txData, t.kind)) = some (0x00000000F7, .tx) := by
  decide

/-! ### Single edges of the sequencer -/

/-- P4, E2: CONNECTED with FIRST_Q. -/
theorem test_open_ok : stsRead (after opening (openAnswer true)) 0 = 0x00010022 := by decide
/-- P3, command 4: SEQ 00010100. -/
theorem test_open_failed : stsRead (after opening (openAnswer false)) 0 = 0x00010100 := by decide
/-- P4, E4: the byte of the `tx_done` edge is captured and the timer is loaded. -/
theorem test_first_byte_with_answer :
    let t := after (sending .fm 0x03 0 Packet.zero) { written 5 with rxValid := true, rxData := 0x01 }
    (t.seqState, t.tmr, t.rxcnt, t.rxbuf) = (.awaitingReply, 4, 1, ⟨0x01, 0, 0, 0, 0⟩) := by decide
/-- P4, E8: the fifth byte wins over expiry; FREQ 8015C05C and MODE 80000101. -/
theorem test_fifth_byte_wins :
    let t := after (awaiting .fm 0x03 4 ⟨0x01, 0x42, 0x55, 0x00, 0⟩ 1) (byteIn 0x01)
    (t.seqState, t.result, t.tmr, stsRead t 1, stsRead t 2) = (.idle, 0, 1, 0x8015C05C, 0x80000101) := by decide
/-- L2-S13: a reply completed at the edge of the write answer. -/
theorem test_reply_before_answer :
    let t := after (sending .fm 0x03 4 ⟨0x14, 0x40, 0, 0, 0⟩) { written 5 with rxValid := true, rxData := 0x08 }
    (t.result, stsRead t 1, stsRead t 2, stsRead t 8) = (0, 0x80DBBA00, 0x80000608, 0x00000508) := by decide
/-- L2-S1: a count of 6 is SHORT_WRITE, and FIRST_Q stays 1 after a pure command. -/
theorem test_short_write : (after (sending .none 0x88 0 Packet.zero) (written 6)).result = 2 ∧
    (after (sending .none 0x88 0 Packet.zero) (written 6)).firstQ = true := by decide
/-- L2-S14: the first probe gets NO_REPLY: UNRESPONSIVE with UNRESP 1. -/
theorem test_no_reply :
    let t := after (awaiting .fm 0x03 0 Packet.zero 1) PortIn.quiet
    (t.seqState, t.unresp, t.firstQ, t.result) = (.unresponsive, true, false, 3) := by decide
/-- L2-S3: a lone FF is SHORT_READ, not NOT_AVAILABLE. -/
theorem test_short_read :
    let t := after (awaiting .tx 0xF7 1 ⟨0xFF, 0, 0, 0, 0⟩ 1) PortIn.quiet
    (t.seqState, t.unresp, t.result, stsRead t 4) = (.idle, false, 4, 0) := by decide
/-- P3, command 9: the sentinel; L2-T7: only `r[0]` is compared. -/
theorem test_sentinel : (after (awaiting .tx 0xF7 4 ⟨0xFF, 0, 0, 0, 0⟩ 3) (byteIn 0)).result = 6 ∧
    stsRead (after (awaiting .tx 0xF7 4 ⟨0x7F, 0xFF, 0xFF, 0xFF, 0⟩ 3) (byteIn 0xFF)) 4 = 0x80002F7F := by decide
/-- L2-R2: an RX byte of FF is no sentinel. -/
theorem test_rx_ff : stsRead (after (awaiting .rx 0xE7 4 ⟨0xFF, 0, 0, 0, 0⟩ 3) (byteIn 0)) 3 = 0x80006FFF := by decide
/-- P4, E16: a late byte is dropped. -/
theorem test_late_byte : (after { session 4 with seqState := .idle, rxcnt := 2, rxbuf := ⟨0x88, 0, 0, 0, 0⟩ }
    (byteIn 0x55)).rxbuf = ⟨0x88, 0, 0, 0, 0⟩ := by decide
/-- L2-S10: reset in flight, SEQ 00000F00. -/
theorem test_reset_in_flight : stsRead (after (awaiting .rx 0xE7 1 ⟨0xB5, 0, 0, 0, 0⟩ 3) resetIn) 0 = 0x00000F00 := by decide
/-- L2-F18, L2-F19: nibbles above 9. -/
theorem test_non_bcd : decFreq ⟨0x01, 0x4A, 0x50, 0x00⟩ = (1505000, true) ∧
    decFreq ⟨0xFF, 0xFF, 0xFF, 0xFF⟩ = (166666665, true) := by decide
/-- The host's placement of a word runs it as the first instruction after reset. -/
theorem test_fetch_word :
    (nextOf (step (State.reset.withFetchWord 40 0x0000960001))).map (fun t => (t.seqState, t.openSpeed)) =
      some (.opening, 38400) ∧
    (nextOf (step (State.reset.withFetchWord 8 0x03))).map (fun t => (t.result, t.lastHop)) = some (7, 0x03) := by decide
/-- R241: the reset value of `result` in a `done` pulse is a fault; R21: so is `seq_state` = 7. -/
theorem test_faults : nextOf (step { start 4 with doneR := true }) = none ∧
    nextOf (step { start 4 with seqState := .unused7 }) = none := by decide
/-- A refused line and a comment (R88). -/
theorem test_assembler : (match Asm.assembleLine "LOCK_ON 1".toList with
      | .error e => decide (e = .unexpectedOperand)
      | .ok _ => false) = true ∧
    (match Asm.assembleLine "  ; nothing".toList with
      | .ok none => true
      | .ok (some _) => false
      | .error _ => false) = true := by decide

/-- The error of a line that is refused. -/
def lineError (line : String) : Option Asm.AsmError :=
  match Asm.assembleLine line.toList with
  | .ok _ => none
  | .error e => some e

/-- The forms of log entry 15: no blank before the operand, an `s` without quotes, and an `s` of more than 4 characters with one
that is not printable. -/
theorem test_assembler_names : lineError "SET_MODE\"USB\"" = some .unknownMnemonic ∧
    lineError "SET_MODE_NAME USB" = some .badName ∧ lineError "SET_MODE_NAME \"\tFM\"" = some .badName ∧
    (match Asm.assembleLine "SET_MODE_NAME \"\tPKT5\"".toList with
      | .ok i => decide (i = some (.setMode 0xFFFFFFFF))
      | .error _ => false) = true := by decide

/-! ### The account of a run (R264, R265, R273) -/

/-- L2-S10: a reset in flight; the last command's `done` never comes and its write has no answer. -/
theorem test_not_ended_after_reset :
    ({ sending .rx 0xE7 0 Packet.zero with inputs := [resetIn] } : State).runEnded 1 = false ∧
    (accountAfter 1 { sending .rx 0xE7 0 Packet.zero with inputs := [resetIn] }).inFlight = true := by decide
/-- A word offered while BUSY and taken back has not been accepted (R273, condition 1); without it the run ends. -/
theorem test_not_ended_after_withdrawal :
    ({ sending .none 0x88 0 Packet.zero with inputs := [offer 0x0000000009, written 5] } : State).runEnded 2 = false ∧
    ({ sending .none 0x88 0 Packet.zero with inputs := [PortIn.quiet, written 5] } : State).runEnded 2 = true := by decide
/-- R262: the late answer to a write that a reset cut is the one owed; R265: a second one is not. -/
theorem test_late_answer : dutiesHeld 2 { sending .fm 0x03 0 Packet.zero with inputs := [resetIn, written 5] } = true ∧
    dutiesHeld 3 { sending .fm 0x03 0 Packet.zero with inputs := [resetIn, written 5, written 5] } = false := by decide
/-- H-a across a reset (log entry 17): the word must still stand at the next edge. -/
theorem test_offer_across_reset :
    dutiesHeld 2 { start 4 with inputs := [{ offer 0x0000000009 with rst := true }, PortIn.quiet] } = false ∧
    dutiesHeld 2 { start 4 with inputs := [{ offer 0x0000000009 with rst := true }, offer 0x0000000009] } = true := by decide

/-! ### Witnesses: for every statement with hypotheses, a concrete case that meets them together -/

/-- The three conditions of a clocked edge. -/
theorem clocked_of {s : State} {p : PortIn} (hc : configWf s.cfg = true) (hr : p.rst = false)
    (hd : s.doneR = true → s.result.toNat ≤ 9) : s.Clocked p := ⟨hc, hr, hd⟩

/-- A word offered in a session. -/
def offered : PortIn := offer 0x0000000009

/-- A session that a first probe left unresponsive. -/
def unresponsive : State := { session 4 with seqState := .unresponsive, unresp := true, firstQ := false }

theorem witness_ConnectOpensTransport : (start 4).seqState = .disconnected := rfl
theorem witness_ConnectInSessionRejected : sessionOpen (session 4).seqState = true ∧
    sessionOpen unresponsive.seqState = true ∧ sessionOpen ({ session 4 with seqState := .idle } : State).seqState = true := by
  decide
theorem witness_DisconnectClosesSession : sessionOpen unresponsive.seqState = true := rfl
theorem witness_LockAndPttDispatchPackets : sessionOpen (session 4).seqState = true := rfl
theorem witness_SetFreqDispatchesDigits : sessionOpen (session 4).seqState = true ∧
    highNibble (encFreq 123456789).f0 = 2 ∧ lowNibble (encFreq 123456789).f3 = 9 := by decide
theorem witness_SetModeDispatchesModeCode : sessionOpen (session 4).seqState = true ∧ nameWord .fmn = 0x464D4E00 := by decide
theorem witness_QueriesDispatchAndArmCapture : sessionOpen (session 4).seqState = true := rfl
theorem witness_CommandsWithoutSessionRejected : (start 4).seqState = .disconnected := rfl
theorem witness_UnknownModeRejected : ready (start 4).seqState = true ∧ ready (session 4).seqState = true ∧
    ∀ m : Mode, (0x58595A00 : Word32) ≠ nameWord m := ⟨rfl, rfl, fun m => by cases m <;> decide⟩
theorem witness_ReservedOpcodesIllegal : ready (session 4).seqState = true ∧
    ((0x00 : Byte) = 0x00 ∨ 0x0C ≤ (0x00 : Byte).toNat) ∧ ((0x0C : Byte) = 0x00 ∨ 0x0C ≤ (0x0C : Byte).toNat) ∧
    ((0xFF : Byte) = 0x00 ∨ 0x0C ≤ (0xFF : Byte).toNat) ∧ ¬((0x0B : Byte) = 0x00 ∨ 0x0C ≤ (0x0B : Byte).toNat) := by decide
theorem witness_ReservedRowsComplete : ready (start 4).seqState = true := rfl
theorem witness_IgnoredArgHasNoEffect : (0x02 : Byte) ≠ 0x01 ∧ (0x02 : Byte) ≠ 0x07 ∧ (0x02 : Byte) ≠ 0x08 := by decide
theorem witness_CatPacketsHandedToTransport : sessionOpen (session 4).seqState = true := rfl
theorem witness_CatPacketsOutsideSession : encode (.catSetMode 0x88) = .packet ⟨0x88, 0, 0, 0, 0x07⟩ ∧
    (start 4).seqState = .disconnected ∧ busy opening.seqState = true ∧
    ({ start 4 with seqState := .unused7 } : State).seqState = .unused7 := ⟨rfl, rfl, rfl, rfl⟩
theorem witness_DispatchedCommandIsItsPacket : (session 4).txStart = false ∧
    exec (decodeHost 0x0015C05C07) (session 4) =
      .next ((nextOf (exec (decodeHost 0x0015C05C07) (session 4))).getD (session 4)) ∧
    ((nextOf (exec (decodeHost 0x0015C05C07) (session 4))).getD (session 4)).txStart = true :=
  ⟨rfl, eq_next (by decide), by decide⟩
theorem witness_StepRunsAcceptedCommand : (session 4).Clocked offered ∧ ready (session 4).seqState = true ∧
    offered.cmdValid = true := ⟨clocked_of (by decide) rfl (by decide), rfl, rfl⟩
theorem witness_ReadyEdgeHoldsState :
    ({ session 4 with doneR := true } : State).Clocked (byteIn 0x42) ∧ ready (session 4).seqState = true ∧
    (byteIn 0x42).cmdValid = false := ⟨clocked_of (by decide) rfl (by decide), rfl, rfl⟩
theorem witness_BusyCommandPortIgnored : busy opening.seqState = true ∧
    busy (sending .fm 0x03 0 Packet.zero).seqState = true ∧ busy (awaiting .fm 0x03 0 Packet.zero 4).seqState = true := by
  decide
theorem witness_OpenAnswerStartsOrEndsConnect :
    (opening.seqState = .opening ∧ opening.Clocked (openAnswer true) ∧
      (openAnswer true).openDone = true ∧ (openAnswer true).openOk = true) ∧
    (opening.Clocked (openAnswer false) ∧ (openAnswer false).openDone = true ∧
      (openAnswer false).openOk = false) ∧
    (opening.Clocked PortIn.quiet ∧ PortIn.quiet.openDone = false) :=
  ⟨⟨rfl, clocked_of (by decide) rfl (by decide), rfl, rfl⟩, ⟨clocked_of (by decide) rfl (by decide), rfl, rfl⟩,
   ⟨clocked_of (by decide) rfl (by decide), rfl⟩⟩

/-- An edge that gives a next state: the premise of the statements about what an edge can do. -/
theorem next_after {s : State} {p : PortIn} (h : nextOf (step (s.seeing p)) = some (after s p)) :
    step (s.seeing p) = .next (after s p) := eq_next h

/-- A byte captured (the fifth place is the last), a byte not captured (a sixth), a query dispatched, and an idle edge. -/
theorem witness_ReplyBufferWriters :
    (step ((awaiting .fm 0x03 4 ⟨1, 2, 3, 4, 0⟩ 2).seeing (byteIn 9)) =
        .next (after (awaiting .fm 0x03 4 ⟨1, 2, 3, 4, 0⟩ 2) (byteIn 9)) ∧
      (awaiting .fm 0x03 4 ⟨1, 2, 3, 4, 0⟩ 2).kind ≠ .none ∧ (byteIn 9).rxValid = true ∧
      (awaiting .fm 0x03 4 ⟨1, 2, 3, 4, 0⟩ 2).rxcnt.toNat < 5) ∧
    (step ((sending .fm 0x03 5 ⟨1, 2, 3, 4, 5⟩).seeing (byteIn 9)) =
        .next (after (sending .fm 0x03 5 ⟨1, 2, 3, 4, 5⟩) (byteIn 9)) ∧
      ¬(sending .fm 0x03 5 ⟨1, 2, 3, 4, 5⟩).rxcnt.toNat < 5) ∧
    (step ((session 4).seeing offered) = .next (after (session 4) offered) ∧
      (after (session 4) offered).txStart = true ∧ (after (session 4) offered).kind ≠ .none) ∧
    (step ((session 4).seeing (byteIn 9)) = .next (after (session 4) (byteIn 9)) ∧
      ¬(after (session 4) (byteIn 9)).txStart = true) :=
  ⟨⟨next_after (by decide), by decide, rfl, by decide⟩, ⟨next_after (by decide), by decide⟩,
   ⟨next_after (by decide), by decide, by decide⟩, ⟨next_after (by decide), by decide⟩⟩
theorem witness_UncapturedByteLeavesNoTrace : resetIn.rst = true ∧ ready (session 4).seqState = true ∧ opening.seqState = .opening ∧
    (sending .none 0x00 0 Packet.zero).kind = .none ∧ 5 ≤ (sending .fm 0x03 5 ⟨1, 2, 3, 4, 5⟩).rxcnt.toNat := by decide
theorem witness_UnreadInputsIgnored : (session 4).seqState ≠ .opening ∧ (written 5).openDone = false ∧
    (session 4).seqState ≠ .sending ∧ (openAnswer true).txDone = false := by decide
theorem witness_PureCommandEndsAtWriteAnswer : (sending .none 0x88 0 Packet.zero).Clocked (written 5) ∧
    (sending .none 0x88 0 Packet.zero).seqState = .sending ∧ (sending .none 0x88 0 Packet.zero).kind = .none ∧
    (written 5).txDone = true ∧ (written 5).txCount = 5 := ⟨clocked_of (by decide) rfl (by decide), rfl, rfl, rfl, rfl⟩
theorem witness_ShortWriteEndsCommand : (sending .fm 0x03 5 ⟨1, 2, 3, 4, 5⟩).Clocked (written 6) ∧
    (sending .fm 0x03 5 ⟨1, 2, 3, 4, 5⟩).seqState = .sending ∧ (written 6).txDone = true ∧ (written 6).txCount ≠ 5 ∧
    (written 4).txCount ≠ 5 ∧ (written 7).txCount ≠ 5 ∧ (written 0).txCount ≠ 5 :=
  ⟨clocked_of (by decide) rfl (by decide), rfl, rfl, by decide, by decide, by decide, by decide⟩
theorem witness_QueryStartsReplyTimer : (sending .rx 0xE7 4 ⟨1, 2, 3, 4, 0⟩).Clocked (written 5) ∧
    (sending .rx 0xE7 4 ⟨1, 2, 3, 4, 0⟩).seqState = .sending ∧ (sending .rx 0xE7 4 ⟨1, 2, 3, 4, 0⟩).kind ≠ .none ∧
    (written 5).txDone = true ∧ (written 5).txCount = 5 ∧
    ((sending .rx 0xE7 4 ⟨1, 2, 3, 4, 0⟩).capture (written 5)).rxcnt ≠ 5 :=
  ⟨clocked_of (by decide) rfl (by decide), rfl, by decide, rfl, rfl, by decide⟩
/-- The reply is completed by the last byte of AWAITING_REPLY, or before the write answer in SENDING. -/
theorem witness_FreqModeReplyCommits :
    ((awaiting .fm 0x03 4 ⟨1, 2, 3, 4, 0⟩ 1).Clocked (byteIn 9) ∧ (awaiting .fm 0x03 4 ⟨1, 2, 3, 4, 0⟩ 1).kind = .fm ∧
      (awaiting .fm 0x03 4 ⟨1, 2, 3, 4, 0⟩ 1).ReplyComplete (byteIn 9)) ∧
    ((sending .fm 0x03 5 ⟨1, 2, 3, 4, 5⟩).Clocked (written 5) ∧
      (sending .fm 0x03 5 ⟨1, 2, 3, 4, 5⟩).ReplyComplete (written 5)) :=
  ⟨⟨clocked_of (by decide) rfl (by decide), rfl, ⟨.inl rfl, by decide⟩⟩,
   ⟨clocked_of (by decide) rfl (by decide), ⟨.inr ⟨rfl, rfl, rfl⟩, by decide⟩⟩⟩
theorem witness_RxStatusReplyCommits : (awaiting .rx 0xE7 4 ⟨0xFF, 2, 3, 4, 0⟩ 1).Clocked (byteIn 9) ∧
    (awaiting .rx 0xE7 4 ⟨0xFF, 2, 3, 4, 0⟩ 1).kind = .rx ∧
    (awaiting .rx 0xE7 4 ⟨0xFF, 2, 3, 4, 0⟩ 1).ReplyComplete (byteIn 9) :=
  ⟨clocked_of (by decide) rfl (by decide), rfl, ⟨.inl rfl, by decide⟩⟩
theorem witness_TxStatusReplyCommitsUnlessSentinel :
    ((awaiting .tx 0xF7 4 ⟨0xFE, 2, 3, 4, 0⟩ 1).Clocked (byteIn 9) ∧ (awaiting .tx 0xF7 4 ⟨0xFE, 2, 3, 4, 0⟩ 1).kind = .tx ∧
      (awaiting .tx 0xF7 4 ⟨0xFE, 2, 3, 4, 0⟩ 1).ReplyComplete (byteIn 9) ∧
      ((awaiting .tx 0xF7 4 ⟨0xFE, 2, 3, 4, 0⟩ 1).capture (byteIn 9)).rxbuf.b0 ≠ 0xFF) ∧
    ((awaiting .tx 0xF7 4 ⟨0xFF, 2, 3, 4, 0⟩ 1).Clocked (byteIn 9) ∧ (awaiting .tx 0xF7 4 ⟨0xFF, 2, 3, 4, 0⟩ 1).kind = .tx ∧
      (awaiting .tx 0xF7 4 ⟨0xFF, 2, 3, 4, 0⟩ 1).ReplyComplete (byteIn 9) ∧
      ((awaiting .tx 0xF7 4 ⟨0xFF, 2, 3, 4, 0⟩ 1).capture (byteIn 9)).rxbuf.b0 = 0xFF) :=
  ⟨⟨clocked_of (by decide) rfl (by decide), rfl, ⟨.inl rfl, by decide⟩, by decide⟩,
   ⟨clocked_of (by decide) rfl (by decide), rfl, ⟨.inl rfl, by decide⟩, by decide⟩⟩
theorem witness_ReplyTimerCountsDown : (awaiting .fm 0x03 3 ⟨1, 2, 3, 0, 0⟩ 2).Clocked (byteIn 9) ∧
    (awaiting .fm 0x03 3 ⟨1, 2, 3, 0, 0⟩ 2).seqState = .awaitingReply ∧
    ((awaiting .fm 0x03 3 ⟨1, 2, 3, 0, 0⟩ 2).capture (byteIn 9)).rxcnt ≠ 5 ∧
    2 ≤ (awaiting .fm 0x03 3 ⟨1, 2, 3, 0, 0⟩ 2).tmr.toNat :=
  ⟨clocked_of (by decide) rfl (by decide), rfl, by decide, by decide⟩
theorem witness_TimeoutWithoutBytesIsNoReply : (awaiting .fm 0x03 0 Packet.zero 1).Clocked PortIn.quiet ∧
    (awaiting .fm 0x03 0 Packet.zero 1).seqState = .awaitingReply ∧ (awaiting .fm 0x03 0 Packet.zero 1).kind ≠ .none ∧
    ((awaiting .fm 0x03 0 Packet.zero 1).capture PortIn.quiet).rxcnt = 0 ∧
    (awaiting .fm 0x03 0 Packet.zero 1).tmr.toNat ≤ 1 :=
  ⟨clocked_of (by decide) rfl (by decide), rfl, by decide, by decide, by decide⟩
/-- One byte, and four bytes with the fourth at the last edge. -/
theorem witness_TimeoutWithSomeBytesIsShortRead :
    ((awaiting .tx 0xF7 1 ⟨0xFF, 0, 0, 0, 0⟩ 1).Clocked PortIn.quiet ∧
      (awaiting .tx 0xF7 1 ⟨0xFF, 0, 0, 0, 0⟩ 1).seqState = .awaitingReply ∧
      (awaiting .tx 0xF7 1 ⟨0xFF, 0, 0, 0, 0⟩ 1).kind ≠ .none ∧
      1 ≤ ((awaiting .tx 0xF7 1 ⟨0xFF, 0, 0, 0, 0⟩ 1).capture PortIn.quiet).rxcnt.toNat ∧
      (awaiting .tx 0xF7 1 ⟨0xFF, 0, 0, 0, 0⟩ 1).tmr.toNat ≤ 1) ∧
    ((awaiting .tx 0xF7 3 ⟨1, 2, 3, 0, 0⟩ 1).capture (byteIn 4)).rxcnt.toNat ≤ 4 :=
  ⟨⟨clocked_of (by decide) rfl (by decide), rfl, by decide, by decide, by decide⟩, by decide⟩
/-- A sticky `unresp`, a first probe that sets it, and a command that ends while it is 1. -/
theorem witness_UnrespIsSticky :
    (step (unresponsive.seeing offered) = .next (after unresponsive offered) ∧ unresponsive.unresp = true) ∧
    (step ((awaiting .fm 0x03 0 Packet.zero 1).seeing PortIn.quiet) =
        .next (after (awaiting .fm 0x03 0 Packet.zero 1) PortIn.quiet) ∧
      (awaiting .fm 0x03 0 Packet.zero 1).unresp = false ∧
      (after (awaiting .fm 0x03 0 Packet.zero 1) PortIn.quiet).unresp = true) ∧
    (step (({ sending .none 0x00 0 Packet.zero with unresp := true, firstQ := false } : State).seeing (written 5)) =
        .next (after { sending .none 0x00 0 Packet.zero with unresp := true, firstQ := false } (written 5)) ∧
      (after { sending .none 0x00 0 Packet.zero with unresp := true, firstQ := false } (written 5)).doneR = true) :=
  ⟨⟨next_after (by decide), rfl⟩, ⟨next_after (by decide), rfl, by decide⟩, ⟨next_after (by decide), by decide⟩⟩
theorem witness_StatusRecordWriters : (byteIn 9).rst = false ∧
    step ((awaiting .fm 0x03 4 ⟨1, 2, 3, 4, 0⟩ 1).seeing (byteIn 9)) =
      .next (after (awaiting .fm 0x03 4 ⟨1, 2, 3, 4, 0⟩ 1) (byteIn 9)) := ⟨rfl, next_after (by decide)⟩
/-- An open, a close and a write, each at the edge of its command. -/
theorem witness_RequestsComeFromCommands :
    (step ((start 4).seeing (offer 0x0000960001)) = .next (after (start 4) (offer 0x0000960001)) ∧
      (after (start 4) (offer 0x0000960001)).openReq = true) ∧
    (step ((session 4).seeing (offer 0x0000000002)) = .next (after (session 4) (offer 0x0000000002)) ∧
      (after (session 4) (offer 0x0000000002)).closeReq = true) ∧
    (step ((session 4).seeing offered) = .next (after (session 4) offered) ∧ (after (session 4) offered).txStart = true) :=
  ⟨⟨next_after (by decide), by decide⟩, ⟨next_after (by decide), by decide⟩, ⟨next_after (by decide), by decide⟩⟩
theorem witness_DoneExactlyAtCompletion :
    (step (opening.seeing (openAnswer true)) = .next (after opening (openAnswer true)) ∧ busy opening.seqState = true) ∧
    (step ((start 4).seeing offered) = .next (after (start 4) offered) ∧ offered.cmdValid = true) ∧
    (step ((session 4).seeing PortIn.quiet) = .next (after (session 4) PortIn.quiet) ∧
      ready (session 4).seqState = true ∧ PortIn.quiet.cmdValid = false) :=
  ⟨⟨next_after (by decide), rfl⟩, ⟨next_after (by decide), rfl⟩, ⟨next_after (by decide), rfl, rfl⟩⟩
/-- A next state, a fault and a refusal. -/
theorem witness_LastHopRecordedAndNeverRead :
    (offered.rst = false ∧ step ((session 4).seeing offered) = .next (after (session 4) offered)) ∧
    step { start 4 with doneR := true } = .fault .unusedResultCode ∧
    step { start 0 with lastHop := 7 } = .refused .illFormedConfig :=
  ⟨⟨rfl, next_after (by decide)⟩, rfl, rfl⟩
theorem witness_TimerUnreadOutsideAwaiting : (sending .fm 0x03 0 Packet.zero).seqState ≠ .awaitingReply ∧
    step ((sending .fm 0x03 0 Packet.zero).seeing (written 5)) =
      .next (after (sending .fm 0x03 0 Packet.zero) (written 5)) ∧
    step { start 4 with seqState := .unused7 } = .fault .unusedSeqState ∧
    step (start 0) = .refused .illFormedConfig := ⟨by decide, next_after (by decide), rfl, rfl⟩
theorem witness_ResetEdgeSetsEveryElement : configWf unresponsive.cfg = true ∧ resetIn.rst = true ∧
    step (unresponsive.seeing resetIn) = .next (after unresponsive resetIn) := ⟨by decide, rfl, next_after (by decide)⟩
/-- A state of each value of `cmd_ready`, and the ends of the words that read 0 after reset. -/
theorem witness_StatusSpaceAfterReset : (outputs opening 0).cmdReady = false ∧ (outputs (session 4) 0).cmdReady = true ∧
    (outputs ({ session 4 with txpkt := ⟨1, 2, 3, 4, 5⟩ } : State) 0).txData = 0x0102030405 ∧ (1 : BitVec 4) ≠ 0 ∧ (1 : BitVec 4) ≠ 9 ∧ (15 : BitVec 4) ≠ 0 ∧ (15 : BitVec 4) ≠ 9 := by
  decide
theorem witness_IllFormedParametersRefused : (start 0).cfg.timeoutCycles = 0 ∧
    (Mode.pkt ≠ Mode.fmn ∧ modeCode { defaultModeCode with pkt := 0x88 } .pkt = modeCode { defaultModeCode with pkt := 0x88 } .fmn) ∧
    (configOfClock 1 defaultModeCode = some ⟨3, defaultModeCode⟩ ∧ 1 ≤ 3 * 1) ∧
    (configOfClock 1431655765 defaultModeCode).isSome = true ∧ 3 * 1431655765 < 2 ^ 32 ∧
    ¬1 ≤ 3 * 0 ∧ ¬3 * 1431655766 < 2 ^ 32 ∧ modeTableInjective defaultModeCode = true ∧
    configOfClock 1 { defaultModeCode with pkt := 0x88 } = none := by decide
/-- The codes 10 and 15; `seq_state` = 7 without a pulse, and with one that carries 9; a reset edge from either. -/
theorem witness_UnusedCodesFault :
    (configWf (start 4).cfg = true ∧ PortIn.quiet.rst = false ∧ resetIn.rst = true) ∧
    step (({ start 4 with doneR := true, result := 10 } : State).seeing PortIn.quiet) = .fault .unusedResultCode ∧
    step (({ start 4 with doneR := true } : State).seeing PortIn.quiet) = .fault .unusedResultCode ∧
    step (({ start 4 with seqState := .unused7 } : State).seeing PortIn.quiet) = .fault .unusedSeqState ∧
    step (({ start 4 with seqState := .unused7, doneR := true, result := 9 } : State).seeing PortIn.quiet) =
      .fault .unusedSeqState ∧
    (after { start 4 with seqState := .unused7, doneR := true } resetIn).seqState = .disconnected :=
  ⟨by decide, rfl, rfl, rfl, rfl, by decide⟩
/-- Every state and kind, and the ends of the reserved words. -/
theorem witness_UngatedStatusWords :
    ([.disconnected, .opening, .connected, .sending, .awaitingReply, .idle, .unresponsive, .unused7].map fun q =>
      (stsRead { start 4 with seqState := q } 0).extractLsb' 0 4) = [0, 9, 2, 11, 12, 5, 6, 7] ∧
    ([.none, .fm, .rx, .tx].map fun k => (stsRead { start 4 with kind := k } 0).extractLsb' 24 2) = [0, 1, 2, 3] ∧
    11 ≤ (11 : BitVec 4).toNat ∧ 11 ≤ (15 : BitVec 4).toNat := by decide
/-- Absent; present with the largest sum and an unknown code; each mode code of the default table. -/
theorem witness_FreqModeStatusWords : (start 4).fmValid = false ∧ configWf (start 4).cfg = true ∧
    ({ session 4 with fmValid := true, fmRaw := ⟨0xFF, 0xFF, 0xFF, 0xFF, 0x05⟩ } : State).fmValid = true ∧
    (∀ m : Mode, (0x05 : Byte) ≠ modeCode defaultModeCode m) ∧
    (([0x00, 0x01, 0x02, 0x03, 0x04, 0x06, 0x08, 0x88, 0x0A, 0x0C, 0x05] : List Byte).map fun c =>
      (stsRead { session 4 with fmValid := true, fmRaw := ⟨0, 0, 0, 0, c⟩ } 2).extractLsb' 8 4) =
      [0, 1, 2, 3, 4, 5, 6, 7, 8, 9, 15] :=
  ⟨rfl, by decide, rfl, fun m => by cases m <;> decide, by decide⟩
theorem witness_RxStatusWord : (start 4).rxValid = false ∧ ({ session 4 with rxValid := true, rxRaw := 0xB5 } : State).rxValid = true := by
  decide
theorem witness_TxStatusWord : (start 4).txValid = false ∧ ({ session 4 with txValid := true, txRaw := 0x88 } : State).txValid = true := by
  decide
theorem witness_FrequencyReverseRoundTrip : nonBcd ⟨0x99, 0x99, 0x99, 0x99⟩ = false ∧ nonBcd ⟨0, 0, 0, 0x0A⟩ = true := by decide
theorem witness_ModeTableRoundTrip : modeTableInjective defaultModeCode = true ∧
    (0x05 : Byte) ∉ modes.map (modeCode defaultModeCode) ∧ (0x43572000 : Word32) ∉ modes.map nameWord ∧
    modes.map nameWord = [0x4C534200, 0x55534200, 0x43570000, 0x43575200, 0x414D0000, 0x57464D00, 0x464D0000, 0x464D4E00,
      0x44494700, 0x504B5400] := by decide
theorem witness_DecodeOfEncode : (Instr.catSetFrequency ⟨0x14, 0x40, 0, 0⟩).wf = true ∧ (Instr.setFreq 7).wf = true := by decide
theorem witness_EncodeOfDecode : decode (.packet ⟨0x14, 0x40, 0, 0, 0x01⟩) = .ok (.catSetFrequency ⟨0x14, 0x40, 0, 0⟩) ∧
    decode (.host 0x00000000FF) = .ok (.reserved80 0x7F 0) := ⟨rfl, rfl⟩
/-- The ends of the five reserved ranges. -/
theorem witness_HopSelectsCommand :
    decodeHost (hostWord 0x0C 0) = .reserved0C 0 0 ∧ decodeHost (hostWord 0x0F 0) = .reserved0C 3 0 ∧
    decodeHost (hostWord 0x10 0) = .reserved10 0 0 ∧ decodeHost (hostWord 0x1F 0) = .reserved10 15 0 ∧
    decodeHost (hostWord 0x20 0) = .reserved20 0 0 ∧ decodeHost (hostWord 0x3F 0) = .reserved20 31 0 ∧
    decodeHost (hostWord 0x40 0) = .reserved40 0 0 ∧ decodeHost (hostWord 0x7F 0) = .reserved40 63 0 ∧
    decodeHost (hostWord 0x80 0) = .reserved80 0 0 ∧ decodeHost (hostWord 0xFF 0) = .reserved80 127 0 := by decide

/-- An invariant state in AWAITING_REPLY. -/
theorem awaiting_inv : (awaiting .fm 0x03 1 ⟨0x14, 0, 0, 0, 0⟩ 4).Inv where
  phase := ⟨by decide, by decide, by decide, by decide, by decide, by decide⟩
  pulses := ⟨by decide, by decide, by decide, by decide, by decide, by decide⟩
  exchange :=
    ⟨by decide,
     fun i hi => match i, hi with
       | 0, hi => absurd hi (by decide)
       | 1, _ => rfl
       | 2, _ => rfl
       | 3, _ => rfl
       | 4, _ => rfl
       | _ + 5, _ => rfl,
     by decide, by decide, by decide, by decide, fun _ => ⟨.catGetFreqMode, rfl⟩, by decide⟩
  record := ⟨by decide, by decide, by decide, by decide⟩
theorem witness_EveryEdgeKeepsInvariant : (awaiting .fm 0x03 1 ⟨0x14, 0, 0, 0, 0⟩ 4).Inv ∧
    step (awaiting .fm 0x03 1 ⟨0x14, 0, 0, 0, 0⟩ 4) =
      .next ((nextOf (step (awaiting .fm 0x03 1 ⟨0x14, 0, 0, 0, 0⟩ 4))).getD (start 4)) :=
  ⟨awaiting_inv, eq_next (by decide)⟩
theorem witness_GoodStatesNeverStop : (awaiting .fm 0x03 1 ⟨0x14, 0, 0, 0, 0⟩ 4).Inv ∧
    configWf (awaiting .fm 0x03 1 ⟨0x14, 0, 0, 0, 0⟩ 4).cfg = true := ⟨awaiting_inv, by decide⟩
theorem witness_RunsFromResetAreSafe : configWf ⟨10, defaultModeCode⟩ = true := by decide

/-- A silent query, one edge before its timeout and four. -/
def silent : State := { awaiting .fm 0x03 1 ⟨0x14, 0, 0, 0, 0⟩ 4 with inputs := [offered, written 5, openAnswer true] }
theorem witness_SilentQueryEndsAtTimeout : configWf silent.cfg = true ∧ silent.seqState = .awaitingReply ∧
    silent.kind ≠ .none ∧ silent.doneR = false ∧ silent.rxcnt.toNat < 5 ∧ silent.tmr.toNat = 3 + 1 ∧
    (∀ p ∈ silent.inputs.take (3 + 1), p.rst = false ∧ p.rxValid = false) ∧ silent.rxcnt ≠ 0 := by decide
theorem witness_UnansweredRequestWaits :
    (configWf opening.cfg = true ∧ opening.doneR = false ∧ opening.seqState = .opening ∧
      ∀ p ∈ ([written 5, byteIn 9] : List PortIn).take 2, p.rst = false ∧ p.openDone = false) ∧
    (configWf (sending .fm 0x03 0 Packet.zero).cfg = true ∧ (sending .fm 0x03 0 Packet.zero).doneR = false ∧
      (sending .fm 0x03 0 Packet.zero).seqState = .sending ∧
      ∀ p ∈ ([openAnswer true, byteIn 9] : List PortIn).take 2, p.rst = false ∧ p.txDone = false) := by decide
/-- P1, commands 4 at E7 to E13, with TIMEOUT_CYCLES = 5. -/
theorem witness_FreqModeQueryDeliversReply :
    let s : State := { session 5 with
      inputs := [offered, written 5, byteIn 0x01, byteIn 0x42, byteIn 0x55, byteIn 0x00, byteIn 0x01] }
    configWf s.cfg = true ∧ (s.doneR = true → s.result.toNat ≤ 9) ∧ sessionOpen s.seqState = true ∧
    5 ≤ s.cfg.timeoutCycles.toNat ∧ (∀ p ∈ s.inputs, p.rst = false) ∧ offered.cmdValid = true ∧
    hopOf offered.cmdWord = 0x09 ∧ (written 5).txDone = true ∧ (written 5).txCount = 5 ∧ (written 5).rxValid = false ∧
    ∀ p ∈ [byteIn 0x01, byteIn 0x42, byteIn 0x55, byteIn 0x00, byteIn 0x01], p.rxValid = true := by decide

end Sys2Proof.Tests
end

/-! ## Proofs: the parameters (00_scope.md R8) -/

namespace Sys2Proof.Machine

/-! ### The mode table -/

theorem mem_modes (m : Mode) : m ∈ modes := by cases m <;> decide

theorem nodup_modes : modes.Nodup := by decide

/-- The check on the list of codes is injectivity of the lookup, since `modes` lists every mode once. -/
theorem modeTableInjective_iff (t : ModeTable) :
    modeTableInjective t = true ↔ ∀ m n : Mode, modeCode t m = modeCode t n → m = n := by
  simp only [modeTableInjective, decide_eq_true_eq, List.nodup_map_iff_inj_on nodup_modes, mem_modes, true_imp_iff]

/-! ### Well-formed parameters -/

theorem configWf_iff (c : Config) :
    configWf c = true ↔
      c.timeoutCycles ≠ 0 ∧ ∀ m n : Mode, modeCode c.modeCode m = modeCode c.modeCode n → m = n := by
  rw [← modeTableInjective_iff]
  simp [configWf]

/-- Ill-formed parameters are refused before anything else (log entry 4). -/
theorem step_of_not_configWf {s : State} (h : ¬configWf s.cfg = true) : step s = .refused .illFormedConfig :=
  if_neg h

/-! ### Parameters of a clock frequency -/

theorem configOfClock_of_wf {f : Nat} {t : ModeTable} (hpos : 1 ≤ 3 * f) (hlt : 3 * f < 2 ^ 32)
    (hinj : ∀ m n : Mode, modeCode t m = modeCode t n → m = n) :
    configOfClock f t = some ⟨BitVec.ofNat 32 (3 * f), t⟩ :=
  if_pos ⟨hpos, hlt, (modeTableInjective_iff t).2 hinj⟩

theorem configOfClock_of_not_wf {f : Nat} {t : ModeTable}
    (h : ¬(1 ≤ 3 * f ∧ 3 * f < 2 ^ 32 ∧ ∀ m n : Mode, modeCode t m = modeCode t n → m = n)) :
    configOfClock f t = none := by
  rw [← modeTableInjective_iff] at h
  exact if_neg h

theorem toNat_timeout {f : Nat} (hlt : 3 * f < 2 ^ 32) : (BitVec.ofNat 32 (3 * f)).toNat = 3 * f := by
  rw [BitVec.toNat_ofNat, Nat.mod_eq_of_lt hlt]

theorem configWf_of_clock {f : Nat} {t : ModeTable} (hpos : 1 ≤ 3 * f) (hlt : 3 * f < 2 ^ 32)
    (hinj : ∀ m n : Mode, modeCode t m = modeCode t n → m = n) :
    configWf ⟨BitVec.ofNat 32 (3 * f), t⟩ = true := by
  refine (configWf_iff _).2 ⟨fun hzero => ?_, hinj⟩
  have : 3 * f = 0 := (toNat_timeout hlt).symm.trans (congrArg BitVec.toNat hzero)
  omega

/-- Settles O40: the step refuses what `configWf_iff` excludes, and `configOfClock` makes that check on its product. -/
theorem illFormedParametersRefused : Obligations.IllFormedParametersRefused := by
  refine ⟨fun s hzero => ?_, fun s m n hne heq => ?_, fun f t => ⟨?_, configOfClock_of_not_wf⟩⟩
  · exact step_of_not_configWf fun hwf => ((configWf_iff _).1 hwf).1 hzero
  · exact step_of_not_configWf fun hwf => hne (((configWf_iff _).1 hwf).2 m n heq)
  · rintro ⟨hpos, hlt, hinj⟩
    exact ⟨_, configOfClock_of_wf hpos hlt hinj, toNat_timeout hlt, rfl, configWf_of_clock hpos hlt hinj⟩

end Sys2Proof.Machine

/-! ## Proofs: what an edge does to the state (10_state.md) -/

namespace Sys2Proof.Machine

/-! ### The step over the sample on the ports -/

/-- Every state sees the oldest of its samples, or quiet ports. -/
theorem step_eq_step_seeing (s : State) : step s = step (s.advance.seeing s.sample) := rfl

theorem readyStep_next {p : PortIn} {s : State} (hr : ready s.seqState = true) : ∃ t, readyStep p s = .next t := by
  unfold readyStep
  split
  · obtain ⟨t, ht, _⟩ := exec_decodeHop_cases (hopOf p.cmdWord) (argOf p.cmdWord) s hr
    exact ⟨t, ht⟩
  · exact ⟨s, rfl⟩

/-- A reset edge wins over both faults (70_reset_and_hazards.md R260, log entry 11). -/
theorem step_of_rst {s : State} {p : PortIn} (hc : configWf s.cfg = true) (hr : p.rst = true) :
    step (s.seeing p) = .next s.resetEdge := by
  rw [step_seeing, if_pos hc, clockEdge, if_pos hr]

theorem step_next_of_clocked {s : State} {p : PortIn} (h : s.Clocked p) (hq : s.seqState ≠ .unused7) :
    ∃ t, step (s.seeing p) = .next t := by
  cases hs : s.seqState with
  | disconnected | connected | idle | unresponsive =>
    have hr : ready s.seqState = true := by rw [hs]; rfl
    rw [step_of_ready h hr]
    exact readyStep_next hr
  | opening => exact ⟨_, step_of_opening h hs⟩
  | sending => exact ⟨_, step_of_sending h hs⟩
  | awaitingReply => exact ⟨_, step_of_awaiting h hs⟩
  | unused7 => exact absurd hs hq

/-! ### Where an exchange ends (43_sequencer.md R183) -/

theorem restingState_eq_unresponsive {u : Bool} : restingState u = .unresponsive ↔ u = true := by
  cases u <;> simp [restingState]

theorem restingState_eq_idle {u : Bool} : restingState u = .idle ↔ u = false := by
  cases u <;> simp [restingState]

theorem restingState_eq_or (u : Bool) : restingState u = .idle ∨ restingState u = .unresponsive := by
  cases u <;> simp [restingState]

/-- An exchange leaves IDLE or UNRESPONSIVE and no other state. -/
theorem restingState_ne {u : Bool} {q : SeqState} (hi : q ≠ .idle) (hu : q ≠ .unresponsive) : restingState u ≠ q := by
  rintro rfl
  exact (restingState_eq_or u).elim hi hu

theorem completeUnresp_of_unresp {s : State} {c : ResultCode} (h : s.unresp = true) : completeUnresp s c = true := by
  simp [completeUnresp, h]

/-- Only the first probe's NO_REPLY sets `unresp`. -/
theorem completeUnresp_sets {s : State} {c : ResultCode} (h : s.unresp = false) (hu : completeUnresp s c = true) :
    s.kind ≠ .none ∧ c = .noReply ∧ s.firstQ = true := by
  simpa [completeUnresp, h, and_assoc] using hu

theorem resultBits_le (c : ResultCode) : (resultBits c).toNat ≤ 9 := by cases c <;> decide

/-! ### The session flags and `seq_state` (R21, R26, R27) -/

section
variable {s : State}

theorem State.PhaseInv.requestOpen (h : s.PhaseInv) (hd : s.seqState = .disconnected) (speed : Word32) :
    (s.requestOpen speed).PhaseInv where
  phaseUsed := nofun
  unresponsiveFlag := nofun
  idleFlag := nofun
  connectedFlags := nofun
  noSessionNoProbe _ := h.noSessionNoProbe (.inl hd)
  unrespProbed := h.unrespProbed

theorem State.closeSession_phaseInv : s.closeSession.PhaseInv where
  phaseUsed := nofun
  unresponsiveFlag := nofun
  idleFlag := nofun
  connectedFlags := nofun
  noSessionNoProbe _ := rfl
  unrespProbed _ := rfl

theorem State.startSession_phaseInv : s.startSession.PhaseInv where
  phaseUsed := nofun
  unresponsiveFlag := nofun
  idleFlag := nofun
  connectedFlags _ := ⟨rfl, rfl⟩
  noSessionNoProbe := by rintro (h | h) <;> cases h
  unrespProbed := nofun

/-- The states in which a command is in flight put nothing on the session flags. -/
theorem State.PhaseInv.enterExchange (h : s.PhaseInv) {q : SeqState} (hq : q = .sending ∨ q = .awaitingReply) :
    (s.enter q).PhaseInv where
  phaseUsed := by rcases hq with rfl | rfl <;> nofun
  unresponsiveFlag := by rcases hq with rfl | rfl <;> nofun
  idleFlag := by rcases hq with rfl | rfl <;> nofun
  connectedFlags := by rcases hq with rfl | rfl <;> nofun
  noSessionNoProbe := by rcases hq with rfl | rfl <;> rintro (e | e) <;> cases e
  unrespProbed := h.unrespProbed

theorem State.PhaseInv.openFails (h : s.PhaseInv) (hq : s.seqState = .opening) : (s.enter .disconnected).PhaseInv where
  phaseUsed := nofun
  unresponsiveFlag := nofun
  idleFlag := nofun
  connectedFlags := nofun
  noSessionNoProbe _ := h.noSessionNoProbe (.inr hq)
  unrespProbed := h.unrespProbed

theorem State.PhaseInv.complete (h : s.PhaseInv) (c : ResultCode) : (s.complete c).PhaseInv where
  phaseUsed := restingState_ne nofun nofun
  unresponsiveFlag := restingState_eq_unresponsive.1
  idleFlag := restingState_eq_idle.1
  connectedFlags hq := absurd hq (restingState_ne nofun nofun)
  noSessionNoProbe hq := by
    rcases hq with hq | hq <;> exact absurd hq (restingState_ne nofun nofun)
  unrespProbed hu := by
    rw [State.complete_firstQ]
    split
    · next hk =>
      have hs : s.unresp = true := by simpa [completeUnresp, hk] using hu
      exact h.unrespProbed hs
    · rfl

end

theorem Accepted.phaseInv {hop : Byte} {arg : Word32} {s t : State} (h : Accepted hop arg s t) (hs : s.PhaseInv) :
    t.PhaseInv := by
  cases h with
  | rejected => exact { hs with }
  | opened hd => exact State.PhaseInv.requestOpen (s := s.setLastHop hop) { hs with } hd arg
  | closed => exact { (s.setLastHop hop).closeSession_phaseInv with }
  | dispatched => exact { hs.enterExchange (.inl rfl) with }

theorem openingStep_phaseInv {s : State} (p : PortIn) (hs : s.PhaseInv) (hq : s.seqState = .opening) :
    (s.openingStep p).PhaseInv := by
  rcases s.openingStep_cases p with ⟨_, _, e⟩ | ⟨_, _, e⟩ | ⟨_, e⟩ <;> rw [e]
  · exact { s.startSession_phaseInv with }
  · exact { hs.openFails hq with }
  · exact hs

theorem InFlight.phaseInv {u t : State} (h : InFlight u t) (hu : u.PhaseInv) : t.PhaseInv := by
  cases h with
  | waits | idles => exact hu
  | startsTimer => exact { hu.enterExchange (.inr rfl) with }
  | counts => exact { hu with }
  | ends c => exact hu.complete c
  | commitsFm => exact State.PhaseInv.complete (s := u.commitFm _) { hu with } _
  | commitsRx => exact State.PhaseInv.complete (s := u.commitRx _) { hu with } _
  | commitsTx => exact State.PhaseInv.complete (s := u.commitTx _) { hu with } _

/-! ### `result` and the pulse registers (R24, R34) -/

/-- The pulse registers have their defaults (43_sequencer.md R174). -/
structure State.PulsesLow (s : State) : Prop where
  done : s.doneR = false
  openLow : s.openReq = false
  closeLow : s.closeReq = false
  writeLow : s.txStart = false

theorem State.pulseDefaults_low (s : State) : s.pulseDefaults.PulsesLow := ⟨rfl, rfl, rfl, rfl⟩

theorem State.PulsesLow.capture {s : State} (h : s.PulsesLow) (p : PortIn) : (s.capture p).PulsesLow := by
  constructor
  · rw [State.capture_doneR, h.done]
  · rw [State.capture_openReq, h.openLow]
  · rw [State.capture_closeReq, h.closeLow]
  · rw [State.capture_txStart, h.writeLow]

/-- `result` is one of the codes 0 to 9, or the reset value 15 (R24). -/
def resultUsed (r : BitVec 4) : Prop := r.toNat ≤ 9 ∨ r = 15

theorem State.PulsesLow.pulseInv {s : State} (h : s.PulsesLow) (hr : resultUsed s.result) : s.PulseInv where
  resultUsed := hr
  doneCode hd := by simp [h.done] at hd
  doneReady hd := by simp [h.done] at hd
  openPhase ho := by simp [h.openLow] at ho
  writePhase hw := by simp [h.writeLow] at hw
  closePhase hc := by simp [h.closeLow] at hc

theorem State.PulsesLow.finish {s : State} (h : s.PulsesLow) (hr : ready s.seqState = true) (c : ResultCode) :
    (s.finish c).PulseInv where
  resultUsed := .inl (resultBits_le c)
  doneCode _ := resultBits_le c
  doneReady _ := hr
  openPhase ho := by simp [h.openLow] at ho
  writePhase hw := by simp [h.writeLow] at hw
  closePhase hc := by simp [h.closeLow] at hc

theorem State.PulsesLow.complete {s : State} (h : s.PulsesLow) (c : ResultCode) : (s.complete c).PulseInv :=
  State.PulsesLow.finish (s := s.endExchange c) { h with } (ready_restingState _) c

theorem State.PulsesLow.requestOpen {s : State} (h : s.PulsesLow) (hr : resultUsed s.result) (speed : Word32) :
    (s.requestOpen speed).PulseInv :=
  { h.pulseInv hr with
    doneReady := fun hd => by simp [h.done] at hd
    openPhase := fun _ => rfl
    writePhase := fun hw => by simp [h.writeLow] at hw
    closePhase := fun hc => by simp [h.closeLow] at hc }

theorem State.PulsesLow.dispatch {s : State} (h : s.PulsesLow) (hr : resultUsed s.result) (pkt : Packet) (k : Kind) :
    (s.dispatch pkt k).PulseInv :=
  { h.pulseInv hr with
    doneReady := fun hd => by simp [h.done] at hd
    openPhase := fun ho => by simp [h.openLow] at ho
    writePhase := fun _ => rfl
    closePhase := fun hc => by simp [h.closeLow] at hc }

theorem State.PulsesLow.closeSession {s : State} (h : s.PulsesLow) : (s.closeSession.finish .ok).PulseInv where
  resultUsed := .inl (Nat.zero_le 9)
  doneCode _ := Nat.zero_le 9
  doneReady _ := rfl
  openPhase ho := by simp [h.openLow] at ho
  writePhase hw := by simp [h.writeLow] at hw
  closePhase _ := ⟨rfl, rfl, rfl⟩

theorem Accepted.pulseInv {hop : Byte} {arg : Word32} {s t : State} (h : Accepted hop arg s t) (hl : s.PulsesLow)
    (hr : ready s.seqState = true) (hu : resultUsed s.result) : t.PulseInv := by
  have hl' : (s.setLastHop hop).PulsesLow := { hl with }
  cases h with
  | rejected c => exact hl'.finish hr c
  | opened => exact hl'.requestOpen hu arg
  | closed => exact hl'.closeSession
  | dispatched pkt k => exact hl'.dispatch hu pkt k

theorem openingStep_pulseInv {s : State} (p : PortIn) (hl : s.PulsesLow) (hu : resultUsed s.result) :
    (s.openingStep p).PulseInv := by
  rcases s.openingStep_cases p with ⟨_, _, e⟩ | ⟨_, _, e⟩ | ⟨_, e⟩ <;> rw [e]
  · exact State.PulsesLow.finish (s := s.startSession) { hl with } rfl _
  · exact State.PulsesLow.finish (s := s.enter .disconnected) { hl with } rfl _
  · exact hl.pulseInv hu

theorem InFlight.pulseInv {u t : State} (h : InFlight u t) (hl : u.PulsesLow) (hu : resultUsed u.result) :
    t.PulseInv := by
  cases h with
  | waits | idles => exact hl.pulseInv hu
  | startsTimer => exact State.PulsesLow.pulseInv { hl with } hu
  | counts => exact State.PulsesLow.pulseInv { hl with } hu
  | ends c => exact hl.complete c
  | commitsFm => exact State.PulsesLow.complete (s := u.commitFm _) { hl with } _
  | commitsRx => exact State.PulsesLow.complete (s := u.commitRx _) { hl with } _
  | commitsTx => exact State.PulsesLow.complete (s := u.commitTx _) { hl with } _

/-! ### The exchange in flight (R28, R29, R32, R33) -/

/-- The part of `State.ExchangeInv` that says what the reply buffer and the packet register hold, whatever is in flight. -/
structure State.HoldingsInv (s : State) : Prop where
  countBound : s.rxcnt.toNat ≤ 5
  bufferTail : ∀ i, s.rxcnt.toNat ≤ i → getByte s.rxbuf i = 0
  nothingSent : s.txpktValid = false → s.txpkt = Packet.zero
  packetSent : s.txpktValid = true → ∃ i, decodePacket s.txpkt = .ok i

theorem State.ExchangeInv.holdings {s : State} (h : s.ExchangeInv) : s.HoldingsInv := { h with }

theorem getByte_zero (i : Nat) : getByte Packet.zero i = 0 := by
  match i with
  | 0 | 1 | 2 | 3 | 4 => rfl
  | _ + 5 => rfl

/-- A captured byte goes to the first free place, so the buffer stays zero behind the count (R177). -/
theorem State.HoldingsInv.capture {s : State} (h : s.HoldingsInv) (p : PortIn) : (s.capture p).HoldingsInv := by
  rcases s.capture_cases p with ⟨_, _, hlt, e⟩ | ⟨_, e⟩ <;> rw [e]
  · have hcount : (s.rxcnt + 1).toNat = s.rxcnt.toNat + 1 := by bv_omega
    refine { h with countBound := ?_, bufferTail := fun i hi => ?_ }
    · rw [State.holdReply_rxcnt, hcount]
      exact hlt
    · rw [State.holdReply_rxcnt, hcount] at hi
      rw [State.holdReply_rxbuf, getByte_setByte _ _ _ _ hlt, if_neg (by omega)]
      exact h.bufferTail i (by omega)
  · exact h

/-- With nothing in flight the exchange is what the buffer and the packet register hold. -/
theorem State.HoldingsInv.atRest {s : State} (h : s.HoldingsInv) (hk : s.kind = .none)
    (hq : ¬(s.seqState = .sending ∨ s.seqState = .awaitingReply)) : s.ExchangeInv :=
  { h with
    kindInFlight := fun hne => absurd hk hne
    awaiting := fun ha => absurd (.inr ha) hq
    timer := fun ha => absurd (.inr ha) hq
    inFlight := fun hf => absurd hf hq }

theorem State.HoldingsInv.complete {s : State} (h : s.HoldingsInv) (c : ResultCode) : (s.complete c).ExchangeInv := by
  refine State.HoldingsInv.atRest { h with } rfl ?_
  rintro (hq | hq) <;> exact absurd hq (restingState_ne nofun nofun)

theorem State.HoldingsInv.dispatch {s : State} {pkt : Packet} {k : Kind} {i : Instr} (h : s.HoldingsInv)
    (hp : decodePacket pkt = .ok i) (hk : packetKind pkt = k) : (s.dispatch pkt k).ExchangeInv where
  countBound := by
    rw [State.dispatch_rxcnt]
    split
    · exact h.countBound
    · exact Nat.zero_le 5
  bufferTail j hj := by
    rw [State.dispatch_rxcnt] at hj
    rw [State.dispatch_rxbuf]
    split
    · next hn => exact h.bufferTail j (by simpa [hn] using hj)
    · exact getByte_zero j
  kindInFlight _ := .inl rfl
  awaiting := nofun
  timer := nofun
  nothingSent := nofun
  packetSent _ := ⟨i, hp⟩
  inFlight _ := ⟨rfl, hk⟩

theorem not_exchanging_of_ready {q : SeqState} (h : ready q = true) : ¬(q = .sending ∨ q = .awaitingReply) := by
  rintro (rfl | rfl) <;> cases h

theorem State.ExchangeInv.kind_eq_none {s : State} (h : s.ExchangeInv)
    (hq : ¬(s.seqState = .sending ∨ s.seqState = .awaitingReply)) : s.kind = .none :=
  by_contra fun hk => hq (h.kindInFlight hk)

theorem Accepted.exchangeInv {hop : Byte} {arg : Word32} {s t : State} (h : Accepted hop arg s t)
    (hr : ready s.seqState = true) (hs : s.ExchangeInv) : t.ExchangeInv := by
  have hk : s.kind = .none := hs.kind_eq_none (not_exchanging_of_ready hr)
  have hh : (s.setLastHop hop).HoldingsInv := { hs with }
  cases h with
  | rejected => exact { hs with }
  | opened | closed => exact State.HoldingsInv.atRest { hh with } hk (by simp)
  | dispatched pkt k i _ _ hp hpk => exact hh.dispatch hp hpk

theorem openingStep_exchangeInv {s : State} (p : PortIn) (hs : s.ExchangeInv) (hq : s.seqState = .opening) :
    (s.openingStep p).ExchangeInv := by
  have hk : s.kind = .none := hs.kind_eq_none (by simp [hq])
  rcases s.openingStep_cases p with ⟨_, _, e⟩ | ⟨_, _, e⟩ | ⟨_, e⟩ <;> rw [e]
  · exact State.HoldingsInv.atRest { hs with } hk (by simp)
  · exact State.HoldingsInv.atRest { hs with } hk (by simp)
  · exact hs

/-- What is left of `State.ExchangeInv` for a command in flight once this edge's byte is captured: in AWAITING_REPLY the reply
may now be whole. -/
structure State.CapturedInv (u : State) : Prop where
  holdings : u.HoldingsInv
  handedOver : u.txpktValid = true ∧ packetKind u.txpkt = u.kind
  inFlight : u.seqState = .sending ∨ u.seqState = .awaitingReply
  query : u.seqState = .awaitingReply → u.kind ≠ .none
  timerTop : u.seqState = .awaitingReply → u.tmr.toNat ≤ u.cfg.timeoutCycles.toNat

theorem State.ExchangeInv.capture {s : State} (h : s.ExchangeInv) (p : PortIn)
    (hq : s.seqState = .sending ∨ s.seqState = .awaitingReply) : (s.capture p).CapturedInv where
  holdings := h.holdings.capture p
  handedOver := by simpa using h.inFlight hq
  inFlight := by simpa using hq
  query ha := by simpa using (h.awaiting (by simpa using ha)).1
  timerTop ha := by simpa using (h.timer (by simpa using ha)).2

theorem InFlight.exchangeInv {u t : State} (h : InFlight u t) (hu : u.CapturedInv)
    (hT : u.cfg.timeoutCycles ≠ 0) : t.ExchangeInv := by
  have hbound : u.rxcnt.toNat ≤ 5 := hu.holdings.countBound
  cases h with
  | waits hq =>
    exact { hu.holdings with
      kindInFlight := fun _ => .inl hq
      awaiting := fun ha => by simp [hq] at ha
      timer := fun ha => by simp [hq] at ha
      inFlight := fun _ => hu.handedOver }
  | startsTimer hq hk hn =>
    have hpos : 1 ≤ u.cfg.timeoutCycles.toNat := by bv_omega
    exact { hu.holdings with
      kindInFlight := fun _ => .inr rfl
      awaiting := fun _ => ⟨hk, show u.rxcnt.toNat < 5 by omega⟩
      timer := fun _ => ⟨hpos, le_rfl⟩
      inFlight := fun _ => hu.handedOver }
  | counts hq ht hn =>
    have htop := hu.timerTop hq
    have hdown : (u.tmr - 1).toNat = u.tmr.toNat - 1 := by bv_omega
    exact { hu.holdings with
      kindInFlight := fun _ => .inr hq
      awaiting := fun _ => ⟨hu.query hq, show u.rxcnt.toNat < 5 by omega⟩
      timer := fun _ => by
        rw [State.setTimer_tmr, State.setTimer_cfg, hdown]
        omega
      inFlight := fun _ => hu.handedOver }
  | ends c => exact hu.holdings.complete c
  | commitsFm => exact State.HoldingsInv.complete (s := u.commitFm _) { hu.holdings with } _
  | commitsRx => exact State.HoldingsInv.complete (s := u.commitRx _) { hu.holdings with } _
  | commitsTx => exact State.HoldingsInv.complete (s := u.commitTx _) { hu.holdings with } _
  | idles hq hk => exact absurd hk (hu.query hq)

/-! ### The status record (R30, R31) -/

theorem SameRecord.refl (s : State) : SameRecord s s := ⟨rfl, rfl, rfl, rfl, rfl, rfl⟩

theorem SameRecord.trans {s u t : State} (h : SameRecord s u) (h' : SameRecord u t) : SameRecord s t where
  fmValid := h'.fmValid.trans h.fmValid
  fmRaw := h'.fmRaw.trans h.fmRaw
  rxValid := h'.rxValid.trans h.rxValid
  rxRaw := h'.rxRaw.trans h.rxRaw
  txValid := h'.txValid.trans h.txValid
  txRaw := h'.txRaw.trans h.txRaw

theorem SameRecord.capture (s : State) (p : PortIn) : SameRecord s (s.pulseDefaults.capture p) := by
  constructor <;> simp

/-- The three commits write their own part of the record and nothing else of it. -/
theorem SameRecord.commitFm {s u : State} (h : SameRecord s u) (r : Packet) : SameRecord (s.commitFm r) (u.commitFm r) :=
  { h with fmValid := rfl, fmRaw := rfl }

theorem SameRecord.commitRx {s u : State} (h : SameRecord s u) (b : Byte) : SameRecord (s.commitRx b) (u.commitRx b) :=
  { h with rxValid := rfl, rxRaw := rfl }

theorem SameRecord.commitTx {s u : State} (h : SameRecord s u) (b : Byte) : SameRecord (s.commitTx b) (u.commitTx b) :=
  { h with txValid := rfl, txRaw := rfl }

/-- A query ends in `t` with OK and one part of the record of `s` takes its reply (R181). -/
def CommitsReply (s t : State) : Prop :=
  t.doneR = true ∧ t.result = 0 ∧
    ((s.kind = .fm ∧ SameRecord { s with fmValid := true, fmRaw := t.rxbuf } t) ∨
     (s.kind = .rx ∧ SameRecord { s with rxValid := true, rxRaw := t.rxbuf.b0 } t) ∨
     (s.kind = .tx ∧ SameRecord { s with txValid := true, txRaw := t.rxbuf.b0 } t ∧ t.rxbuf.b0 ≠ 0xFF))

theorem CommitsReply.of_sameRecord {s u t : State} (h : SameRecord s u) (hk : u.kind = s.kind)
    (hc : CommitsReply u t) : CommitsReply s t := by
  obtain ⟨hd, hr, hpart⟩ := hc
  refine ⟨hd, hr, ?_⟩
  rcases hpart with ⟨k, e⟩ | ⟨k, e⟩ | ⟨k, e, hb⟩
  · exact .inl ⟨hk.symm.trans k, (h.commitFm _).trans e⟩
  · exact .inr (.inl ⟨hk.symm.trans k, (h.commitRx _).trans e⟩)
  · exact .inr (.inr ⟨hk.symm.trans k, (h.commitTx _).trans e, hb⟩)

theorem Accepted.sameRecord {hop : Byte} {arg : Word32} {s t : State} (h : Accepted hop arg s t) : SameRecord s t := by
  cases h <;> exact ⟨rfl, rfl, rfl, rfl, rfl, rfl⟩

theorem openingStep_record (s : State) (p : PortIn) :
    SameRecord s (s.openingStep p) ∨ (p.openDone = true ∧ p.openOk = true ∧ EmptyRecord (s.openingStep p)) := by
  rcases s.openingStep_cases p with ⟨hd, ho, e⟩ | ⟨_, _, e⟩ | ⟨_, e⟩ <;> rw [e]
  · exact .inr ⟨hd, ho, rfl, rfl, rfl, rfl, rfl, rfl⟩
  · exact .inl { SameRecord.refl s with }
  · exact .inl (.refl s)

theorem InFlight.record {u t : State} (h : InFlight u t) : SameRecord u t ∨ CommitsReply u t := by
  cases h with
  | waits | idles => exact .inl (.refl u)
  | startsTimer | counts | ends => exact .inl ⟨rfl, rfl, rfl, rfl, rfl, rfl⟩
  | commitsFm hk => exact .inr ⟨rfl, rfl, .inl ⟨hk, rfl, rfl, rfl, rfl, rfl, rfl⟩⟩
  | commitsRx hk => exact .inr ⟨rfl, rfl, .inr (.inl ⟨hk, rfl, rfl, rfl, rfl, rfl, rfl⟩)⟩
  | commitsTx hk _ hb => exact .inr ⟨rfl, rfl, .inr (.inr ⟨hk, ⟨rfl, rfl, rfl, rfl, rfl, rfl⟩, hb⟩)⟩

/-- Who writes the status record at an edge without reset (R31). -/
theorem Edge.record {p : PortIn} {s t : State} (h : Edge p s t) (hr : p.rst = false) :
    SameRecord s t ∨ (s.seqState = .opening ∧ p.openDone = true ∧ p.openOk = true ∧ EmptyRecord t) ∨
      CommitsReply s t := by
  cases h with
  | reset hr' => simp [hr] at hr'
  | still => exact .inl { SameRecord.refl s with }
  | accepted _ _ _ _ ha => exact .inl { ha.sameRecord with }
  | opening _ hq =>
    rcases openingStep_record s.pulseDefaults p with hsame | hempty
    · exact .inl { hsame with }
    · exact .inr (.inl ⟨hq, hempty⟩)
  | inFlight _ _ _ ht =>
    rcases ht.record with hsame | hcommit
    · exact .inl ((SameRecord.capture s p).trans hsame)
    · exact .inr (.inr (hcommit.of_sameRecord (.capture s p) (by simp)))

theorem State.RecordInv.of_sameRecord {s t : State} (h : s.RecordInv) (e : SameRecord s t) : t.RecordInv where
  fmAbsent hv := e.fmRaw.trans (h.fmAbsent (e.fmValid ▸ hv))
  rxAbsent hv := e.rxRaw.trans (h.rxAbsent (e.rxValid ▸ hv))
  txAbsent hv := e.txRaw.trans (h.txAbsent (e.txValid ▸ hv))
  txNotSentinel hv := e.txRaw ▸ h.txNotSentinel (e.txValid ▸ hv)

theorem EmptyRecord.recordInv {t : State} (h : EmptyRecord t) : t.RecordInv where
  fmAbsent _ := h.fmRaw
  rxAbsent _ := h.rxRaw
  txAbsent _ := h.txRaw
  txNotSentinel hv := by simp [h.txValid] at hv

theorem State.RecordInv.commitFm {s : State} (h : s.RecordInv) (r : Packet) : (s.commitFm r).RecordInv :=
  { h with fmAbsent := nofun }

theorem State.RecordInv.commitRx {s : State} (h : s.RecordInv) (b : Byte) : (s.commitRx b).RecordInv :=
  { h with rxAbsent := nofun }

theorem State.RecordInv.commitTx {s : State} (h : s.RecordInv) {b : Byte} (hb : b ≠ 0xFF) :
    (s.commitTx b).RecordInv :=
  { h with txAbsent := nofun, txNotSentinel := fun _ => hb }

theorem State.RecordInv.commitsReply {s t : State} (h : s.RecordInv) (hc : CommitsReply s t) : t.RecordInv := by
  obtain ⟨-, -, ⟨-, e⟩ | ⟨-, e⟩ | ⟨-, e, hb⟩⟩ := hc
  · exact (h.commitFm _).of_sameRecord e
  · exact (h.commitRx _).of_sameRecord e
  · exact (h.commitTx hb).of_sameRecord e

/-! ### The invariant -/

/-- Settles O54: nothing is held, sent or in flight. -/
theorem resetMeetsInvariant : Obligations.ResetMeetsInvariant := by
  intro c l
  refine ⟨⟨nofun, nofun, nofun, nofun, fun _ => rfl, nofun⟩, ?_, ?_, ?_⟩
  · exact State.PulsesLow.pulseInv ⟨rfl, rfl, rfl, rfl⟩ (.inr rfl)
  · exact State.HoldingsInv.atRest ⟨Nat.zero_le 5, fun i _ => getByte_zero i, fun _ => rfl, nofun⟩ rfl
      (by simp [State.reset])
  · exact EmptyRecord.recordInv ⟨rfl, rfl, rfl, rfl, rfl, rfl⟩

theorem State.resetEdge_inv (s : State) : s.resetEdge.Inv := resetMeetsInvariant s.cfg s.inputs

theorem State.PhaseInv.capture {s : State} (h : s.PhaseInv) (p : PortIn) : (s.capture p).PhaseInv := by
  rw [s.capture_eq p]
  exact { h with }

theorem Edge.phaseInv {p : PortIn} {s t : State} (h : Edge p s t) (hs : s.PhaseInv) : t.PhaseInv := by
  have hd : s.pulseDefaults.PhaseInv := { hs with }
  cases h with
  | reset => exact s.resetEdge_inv.phase
  | still => exact hd
  | accepted _ _ _ _ ha => exact ha.phaseInv hd
  | opening _ hq => exact openingStep_phaseInv p hd hq
  | inFlight _ _ _ ht => exact ht.phaseInv (hd.capture p)

theorem Edge.pulseInv {p : PortIn} {s t : State} (h : Edge p s t) (hs : s.PulseInv) : t.PulseInv := by
  have hl := s.pulseDefaults_low
  have hu : resultUsed s.pulseDefaults.result := hs.resultUsed
  cases h with
  | reset => exact s.resetEdge_inv.pulses
  | still => exact hl.pulseInv hu
  | accepted _ _ hr _ ha => exact ha.pulseInv hl hr hu
  | opening => exact openingStep_pulseInv p hl hu
  | inFlight _ _ _ ht => exact ht.pulseInv (hl.capture p) (by rwa [State.capture_result])

theorem Edge.exchangeInv {p : PortIn} {s t : State} (h : Edge p s t) (hs : s.ExchangeInv)
    (hc : configWf s.cfg = true) : t.ExchangeInv := by
  have hd : s.pulseDefaults.ExchangeInv := { hs with }
  have hT : s.cfg.timeoutCycles ≠ 0 := ((configWf_iff _).1 hc).1
  cases h with
  | reset => exact s.resetEdge_inv.exchange
  | still => exact hd
  | accepted _ _ hr _ ha => exact ha.exchangeInv hr hd
  | opening _ hq => exact openingStep_exchangeInv p hd hq
  | inFlight _ _ hq ht => exact ht.exchangeInv (hd.capture p hq) (by rwa [State.capture_cfg])

theorem Edge.recordInv {p : PortIn} {s t : State} (h : Edge p s t) (hs : s.RecordInv) : t.RecordInv := by
  cases hr : p.rst with
  | false =>
    rcases h.record hr with e | ⟨-, -, -, e⟩ | e
    · exact hs.of_sameRecord e
    · exact e.recordInv
    · exact hs.commitsReply e
  | true =>
    cases h with
    | reset => exact s.resetEdge_inv.record
    | still h | accepted _ h | opening h | inFlight _ h => simp [hr] at h

theorem Edge.inv {p : PortIn} {s t : State} (h : Edge p s t) (hs : s.Inv) (hc : configWf s.cfg = true) : t.Inv where
  phase := h.phaseInv hs.phase
  pulses := h.pulseInv hs.pulses
  exchange := h.exchangeInv hs.exchange hc
  record := h.recordInv hs.record

theorem State.Inv.advance {s : State} (h : s.Inv) : s.advance.Inv :=
  ⟨{ h.phase with }, { h.pulses with }, { h.exchange with }, { h.record with }⟩

/-- Settles O55, by the shapes of an edge, for each part of the invariant in turn. -/
theorem everyEdgeKeepsInvariant : Obligations.EveryEdgeKeepsInvariant := by
  intro s t hs ht
  obtain ⟨hc, hedge⟩ := step_cases ht
  exact hedge.inv hs.advance hc

end Sys2Proof.Machine

/-! ## Proofs: who writes the flags, the record and the requests (10_state.md R25, R26, R31, R34) -/

namespace Sys2Proof.Machine

/-! ### `unresp` -/

theorem Accepted.unresp_eq {hop : Byte} {arg : Word32} {s t : State} (h : Accepted hop arg s t) :
    t.unresp = s.unresp := by
  cases h <;> rfl

/-- At an edge of a command in flight either the command goes on, or it ends as `Complete` does (R183), whatever it commits. -/
theorem InFlight.goes_on_or_completes {u t : State} (h : InFlight u t) :
    (t.doneR = u.doneR ∧ t.unresp = u.unresp) ∨
    ∃ c, (c = .noReply → u.seqState = .awaitingReply) ∧ t.doneR = true ∧ t.result = resultBits c ∧
      t.unresp = completeUnresp u c ∧ t.seqState = restingState t.unresp := by
  cases h with
  | waits | startsTimer | counts | idles => exact .inl ⟨rfl, rfl⟩
  | ends c hc =>
    refine .inr ⟨c, ?_, rfl, rfl, rfl, rfl⟩
    rintro rfl
    simp only [reduceCtorEq, false_and, true_and, or_false, false_or] at hc
    exact hc.1
  | commitsFm | commitsRx | commitsTx => exact .inr ⟨.ok, nofun, rfl, rfl, rfl, rfl⟩

theorem openingStep_unresp (s : State) (p : PortIn) :
    (s.openingStep p).unresp = s.unresp ∨
      ((s.openingStep p).unresp = false ∧ p.openDone = true ∧ p.openOk = true) := by
  rcases s.openingStep_cases p with ⟨hd, ho, e⟩ | ⟨_, _, e⟩ | ⟨_, e⟩ <;> rw [e]
  · exact .inr ⟨rfl, hd, ho⟩
  · exact .inl rfl
  · exact .inl rfl

/-- Who writes `unresp` at an edge without reset: a successful CONNECT, or the end of an exchange. -/
theorem Edge.unresp_cases {p : PortIn} {s t : State} (h : Edge p s t) (hr : p.rst = false) :
    (t.unresp = s.unresp ∧ (s.seqState = .sending ∨ s.seqState = .awaitingReply → t.doneR = false)) ∨
    (t.unresp = false ∧ s.seqState = .opening ∧ p.openDone = true ∧ p.openOk = true) ∨
    (∃ c, (c = .noReply → s.seqState = .awaitingReply) ∧ t.doneR = true ∧ t.result = resultBits c ∧
      t.unresp = completeUnresp s c ∧ t.seqState = restingState t.unresp) := by
  cases h with
  | reset hr' => simp [hr] at hr'
  | still _ hready => exact .inl ⟨rfl, fun hq => absurd hq (not_exchanging_of_ready hready)⟩
  | accepted _ _ hready _ ha =>
    exact .inl ⟨ha.unresp_eq, fun hq => absurd hq (not_exchanging_of_ready hready)⟩
  | opening _ hq =>
    rcases openingStep_unresp s.pulseDefaults p with e | ⟨e, hd, ho⟩
    · exact .inl ⟨e, by simp [hq]⟩
    · exact .inr (.inl ⟨e, hq, hd, ho⟩)
  | inFlight _ _ _ ht =>
    rcases ht.goes_on_or_completes with ⟨hd, hu⟩ | ⟨c, hc, hd, hres, hu, hq⟩
    · exact .inl ⟨by simpa using hu, fun _ => by simpa using hd⟩
    · exact .inr (.inr ⟨c, by simpa using hc, hd, hres, by simpa [completeUnresp] using hu, hq⟩)

/-- Settles O32, from who writes `unresp` and what `Complete` makes of it. -/
theorem unrespIsSticky : Obligations.UnrespIsSticky := by
  intro s t p hr ht
  rcases (step_seeing_cases ht).unresp_cases hr with ⟨e, hgo⟩ | ⟨e, hopen⟩ | ⟨c, hc, hd, hres, hu, hq⟩
  · refine ⟨fun h => .inl (e.trans h), fun h h' => ?_, fun _ hq hd => ?_⟩
    · simp [e, h] at h'
    · simp [hgo hq] at hd
  · refine ⟨fun _ => .inr hopen, fun _ h' => ?_, fun _ hq => ?_⟩
    · simp [e] at h'
    · simp [hopen.1] at hq
  · refine ⟨fun h => .inl (hu.trans (completeUnresp_of_unresp h)), fun h h' => ?_, fun h _ _ => ?_⟩
    · obtain ⟨hk, rfl, hf⟩ := completeUnresp_sets h (hu ▸ h')
      exact ⟨hc rfl, hk, hf, hd, hres⟩
    · rw [hq, restingState_eq_unresponsive, hu]
      exact completeUnresp_of_unresp h

/-! ### The status record -/

/-- Settles O33. -/
theorem statusRecordWriters : Obligations.StatusRecordWriters := by
  intro s t p hr ht
  exact (step_seeing_cases ht).record hr

/-! ### The transport requests -/

/-- The two states agree in everything that the transport is asked by (R32, R34). -/
structure SameRequests (s t : State) : Prop where
  openReq : t.openReq = s.openReq
  openSpeed : t.openSpeed = s.openSpeed
  closeReq : t.closeReq = s.closeReq
  txStart : t.txStart = s.txStart
  txpkt : t.txpkt = s.txpkt
  txpktValid : t.txpktValid = s.txpktValid

theorem openingStep_sameRequests (s : State) (p : PortIn) : SameRequests s (s.openingStep p) := by
  rcases s.openingStep_cases p with ⟨_, _, e⟩ | ⟨_, _, e⟩ | ⟨_, e⟩ <;> rw [e] <;>
    exact ⟨rfl, rfl, rfl, rfl, rfl, rfl⟩

theorem InFlight.sameRequests {u t : State} (h : InFlight u t) : SameRequests u t := by
  cases h <;> exact ⟨rfl, rfl, rfl, rfl, rfl, rfl⟩

theorem SameRequests.of_capture {s t : State} {p : PortIn} (h : SameRequests (s.capture p) t) : SameRequests s t where
  openReq := by simpa using h.openReq
  openSpeed := by simpa using h.openSpeed
  closeReq := by simpa using h.closeReq
  txStart := by simpa using h.txStart
  txpkt := by simpa using h.txpkt
  txpktValid := by simpa using h.txpktValid

/-- An edge without reset asks the transport for nothing and leaves what it was handed, or accepts a word. -/
theorem Edge.requests {p : PortIn} {s t : State} (h : Edge p s t) (hr : p.rst = false) :
    SameRequests s.pulseDefaults t ∨
      (p.cmdValid = true ∧ Accepted (hopOf p.cmdWord) (argOf p.cmdWord) s.pulseDefaults t) := by
  cases h with
  | reset hr' => simp [hr] at hr'
  | still => exact .inl ⟨rfl, rfl, rfl, rfl, rfl, rfl⟩
  | accepted _ _ _ hv ha => exact .inr ⟨hv, ha⟩
  | opening => exact .inl (openingStep_sameRequests _ p)
  | inFlight _ _ _ ht => exact .inl ht.sameRequests.of_capture

/-- Settles O34: of the four shapes of an acceptance one asks for an open, one for a close and one for a write. -/
theorem requestsComeFromCommands : Obligations.RequestsComeFromCommands := by
  intro s t p hr ht
  rcases (step_seeing_cases ht).requests hr with e | ⟨hv, ha⟩
  · refine ⟨fun h => ?_, fun _ => e.openSpeed, fun h => ?_, fun h => ?_, fun _ => ⟨e.txpkt, e.txpktValid⟩⟩
    · cases e.openReq.symm.trans h
    · cases e.closeReq.symm.trans h
    · cases e.txStart.symm.trans h
  · cases ha with
    | rejected => exact ⟨nofun, fun _ => rfl, nofun, nofun, fun _ => ⟨rfl, rfl⟩⟩
    | opened hq hi => exact ⟨fun _ => ⟨hq, rfl, hv, hi⟩, nofun, nofun, nofun, fun _ => ⟨rfl, rfl⟩⟩
    | closed hq hh => exact ⟨nofun, fun _ => rfl, fun _ => ⟨hq, rfl, hv, hh⟩, nofun, fun _ => ⟨rfl, rfl⟩⟩
    | dispatched _ _ _ hq hh => exact ⟨nofun, fun _ => rfl, nofun, fun _ => ⟨hq, rfl, hv, hh⟩, nofun⟩

/-! ### What every edge keeps: the parameters, and the samples to come -/

/-- The two states agree in the model's own fields (log entries 1 and 5). -/
structure SameOwn (s t : State) : Prop where
  cfg : t.cfg = s.cfg
  inputs : t.inputs = s.inputs

theorem Edge.sameOwn {p : PortIn} {s t : State} (h : Edge p s t) : SameOwn s t := by
  cases h with
  | reset | still => exact ⟨rfl, rfl⟩
  | accepted _ _ _ _ ha => cases ha <;> exact ⟨rfl, rfl⟩
  | opening =>
    rcases s.pulseDefaults.openingStep_cases p with ⟨_, _, e⟩ | ⟨_, _, e⟩ | ⟨_, e⟩ <;> rw [e] <;> exact ⟨rfl, rfl⟩
  | inFlight _ _ _ ht => cases ht <;> constructor <;> simp

/-! ### Progress -/

theorem State.PulseInv.clocked {s : State} {p : PortIn} (h : s.PulseInv) (hc : configWf s.cfg = true)
    (hr : p.rst = false) : s.Clocked p := ⟨hc, hr, h.doneCode⟩

/-- Settles O56: the invariant excludes both faults, and the parameters are not refused. -/
theorem goodStatesNeverStop : Obligations.GoodStatesNeverStop := by
  intro s hs hc
  have hnext : ∃ t, step s = .next t := by
    rw [step_eq_step_seeing]
    cases hr : s.sample.rst with
    | true => exact ⟨_, step_of_rst (s := s.advance) hc hr⟩
    | false => exact step_next_of_clocked (hs.advance.pulses.clocked hc hr) hs.phase.phaseUsed
  obtain ⟨t, ht⟩ := hnext
  have hown : SameOwn s.advance t := (step_cases ht).2.sameOwn
  exact ⟨t, ht, hown.cfg, hown.inputs⟩

/-- A good state with well-formed parameters runs on through good states. -/
theorem run_keeps_inv (n : Nat) : ∀ {s : State}, s.Inv → configWf s.cfg = true →
    ∃ t, Host.Core.run Sys2Proof.core n s = .next t ∧ t.Inv := by
  induction n with
  | zero => exact fun {s} hs _ => ⟨s, rfl, hs⟩
  | succ n ih =>
    intro s hs hc
    obtain ⟨t, ht, hcfg, _⟩ := goodStatesNeverStop s hs hc
    obtain ⟨u, hu, hinv⟩ := ih (everyEdgeKeepsInvariant s t hs ht) (hcfg ▸ hc)
    exact ⟨u, (run_succ_of_next ht).trans hu, hinv⟩

/-- Settles O57, from the reset state on. -/
theorem runsFromResetAreSafe : Obligations.RunsFromResetAreSafe := by
  intro c l n hc
  exact run_keeps_inv n (resetMeetsInvariant c l) hc

/-- Settles O41: the order of the three cases in `clockEdge`. -/
theorem unusedCodesFault : Obligations.UnusedCodesFault := by
  intro s p hc
  refine ⟨fun hr hd hres => ?_, fun hr hno hq => ?_, fun hr => ⟨_, step_of_rst hc hr, rfl, rfl, rfl⟩⟩
  · simp [step_seeing, hc, clockEdge, hr, hd, hres]
  · have hclocked : s.Clocked p := ⟨hc, hr, fun hd => by by_contra hres; exact hno ⟨hd, by omega⟩⟩
    rw [step_of_clocked hclocked, hq]

end Sys2Proof.Machine

/-! ## Proofs: elements that no rule, or one phase only, reads (10_state.md R25, R29) -/

namespace Sys2Proof.Machine

/-! ### Outcomes that differ in one element of the next state -/

/-- An outcome with its next state, if it has one, updated. -/
def onNext (f : State → State) : Host.Outcome State Fault Refusal → Host.Outcome State Fault Refusal
  | .next t => .next (f t)
  | .fault r => .fault r
  | .refused r => .refused r

/-- An outcome that is another one updated stops where that one stops, and for the same reason. -/
theorem onNext_outcomes {α : Type} {f : α → State → State} {o o' : Host.Outcome State Fault Refusal}
    (h : ∃ v, o' = onNext (f v) o) :
    (∀ t, o = .next t → ∃ v, o' = .next (f v t)) ∧ (∀ r, o = .fault r → o' = .fault r) ∧
      (∀ r, o = .refused r → o' = .refused r) := by
  obtain ⟨v, rfl⟩ := h
  refine ⟨?_, ?_, ?_⟩
  · rintro t rfl; exact ⟨v, rfl⟩
  · rintro r rfl; rfl
  · rintro r rfl; rfl

/-- A next state is itself with its own `last_hop` written. -/
theorem onNext_setLastHop_next (t : State) : onNext (·.setLastHop t.lastHop) (.next t) = .next t := rfl

/-! ### `last_hop` is recorded -/

theorem Accepted.lastHop_eq {hop : Byte} {arg : Word32} {s t : State} (h : Accepted hop arg s t) : t.lastHop = hop := by
  cases h <;> rfl

theorem openingStep_lastHop (s : State) (p : PortIn) : (s.openingStep p).lastHop = s.lastHop := by
  rcases s.openingStep_cases p with ⟨_, _, e⟩ | ⟨_, _, e⟩ | ⟨_, e⟩ <;> rw [e] <;> rfl

theorem InFlight.lastHop_eq {u t : State} (h : InFlight u t) : t.lastHop = u.lastHop := by
  cases h <;> rfl

theorem not_ready_of_exchanging {q : SeqState} (h : q = .sending ∨ q = .awaitingReply) : ready q = false := by
  rcases h with rfl | rfl <;> rfl

theorem Edge.lastHop_eq {p : PortIn} {s t : State} (h : Edge p s t) (hr : p.rst = false) :
    t.lastHop = if ready s.seqState && p.cmdValid then hopOf p.cmdWord else s.lastHop := by
  cases h with
  | reset hr' => simp [hr] at hr'
  | still _ _ hv => simp [hv]
  | accepted _ _ hready hv ha => simpa [hready, hv] using ha.lastHop_eq
  | opening _ hq => simp [hq, ready, openingStep_lastHop]
  | inFlight _ _ hq ht => simpa [not_ready_of_exchanging hq] using ht.lastHop_eq

/-! ### `last_hop` is not read -/

/-- Every host word runs as an acceptance of its HOP. -/
theorem exec_decodeHop_eq_accept (hop : Byte) (arg : Word32) :
    ∃ f, ∀ s, exec (decodeHop hop arg) s = accept hop f s := by
  by_cases hres : hop = 0x00 ∨ 0x0C ≤ hop.toNat
  · exact ⟨_, fun s => exec_decodeHop_reserved arg s hres⟩
  by_cases hconnect : hop = 0x01
  · subst hconnect
    exact ⟨_, fun s => show execConnect arg s = _ by unfold execConnect; rfl⟩
  by_cases hsetMode : hop = 0x08
  · subst hsetMode
    exact ⟨_, fun s => show execSetMode arg s = _ by unfold execSetMode; rfl⟩
  have hhop : hop = 2 ∨ hop = 3 ∨ hop = 4 ∨ hop = 5 ∨ hop = 6 ∨ hop = 7 ∨ hop = 9 ∨ hop = 10 ∨ hop = 11 := by
    bv_omega
  rcases hhop with rfl | rfl | rfl | rfl | rfl | rfl | rfl | rfl | rfl <;> exact ⟨_, fun _ => rfl⟩

/-- The acceptance of a word overwrites `last_hop` before anything else. -/
theorem exec_decodeHop_setLastHop {s : State} (hop : Byte) (arg : Word32) (h : Byte) (hr : ready s.seqState = true) :
    exec (decodeHop hop arg) (s.setLastHop h) = exec (decodeHop hop arg) s := by
  obtain ⟨f, hf⟩ := exec_decodeHop_eq_accept hop arg
  rw [hf, hf, accept_of_ready hr, accept_of_ready (s := s.setLastHop h) hr]
  rfl

theorem readyStep_setLastHop {p : PortIn} {s : State} (h : Byte) (hr : ready s.seqState = true) :
    ∃ h', readyStep p (s.setLastHop h) = onNext (·.setLastHop h') (readyStep p s) := by
  unfold readyStep
  split
  · obtain ⟨t, ht, _⟩ := exec_decodeHop_cases (hopOf p.cmdWord) (argOf p.cmdWord) s hr
    refine ⟨t.lastHop, ?_⟩
    rw [decodeHost, exec_decodeHop_setLastHop _ _ h hr, ht, onNext_setLastHop_next]
  · exact ⟨h, rfl⟩

section
variable (s : State) (h : Byte)

theorem State.openingStep_setLastHop (p : PortIn) : (s.setLastHop h).openingStep p = (s.openingStep p).setLastHop h := by
  unfold State.openingStep
  split
  · split <;> rfl
  · rfl

theorem State.capture_setLastHop (p : PortIn) : (s.setLastHop h).capture p = (s.capture p).setLastHop h := by
  have hcap : captures (s.setLastHop h) p = captures s p := rfl
  unfold State.capture
  rw [hcap]
  split <;> rfl

theorem State.decodeCommit_setLastHop : (s.setLastHop h).decodeCommit = s.decodeCommit.setLastHop h := by
  unfold State.decodeCommit
  rw [State.setLastHop_kind]
  split
  · rfl
  · rfl
  · rw [State.setLastHop_rxbuf]
    split <;> rfl
  · rfl

theorem State.timerStep_setLastHop : (s.setLastHop h).timerStep = s.timerStep.setLastHop h := by
  unfold State.timerStep
  rw [State.setLastHop_tmr]
  split <;> rfl

theorem State.writeAnswer_setLastHop (c : BitVec 3) : (s.setLastHop h).writeAnswer c = (s.writeAnswer c).setLastHop h := by
  unfold State.writeAnswer
  rw [State.setLastHop_kind, State.setLastHop_rxcnt, State.decodeCommit_setLastHop]
  split_ifs <;> rfl

theorem State.sendingStep_setLastHop (p : PortIn) : (s.setLastHop h).sendingStep p = (s.sendingStep p).setLastHop h := by
  unfold State.sendingStep
  rw [State.capture_setLastHop, State.writeAnswer_setLastHop]
  split <;> rfl

theorem State.awaitStep_setLastHop (p : PortIn) : (s.setLastHop h).awaitStep p = (s.awaitStep p).setLastHop h := by
  unfold State.awaitStep
  rw [State.capture_setLastHop, State.setLastHop_rxcnt, State.decodeCommit_setLastHop, State.timerStep_setLastHop]
  split <;> rfl

end

/-! ### `tmr` is read in AWAITING_REPLY only -/

section
variable (v : Word32)

theorem accept_setTimer {hop : Byte} {f : State → State} (hf : ∀ s, f (s.setTimer v) = (f s).setTimer v) (s : State) :
    accept hop f (s.setTimer v) = onNext (·.setTimer v) (accept hop f s) := by
  have hstart : f ((s.setLastHop hop).setTimer v) = (f (s.setLastHop hop)).setTimer v := hf _
  unfold accept
  rw [State.setTimer_seqState]
  cases s.seqState with
  | disconnected | connected | idle | unresponsive => exact congrArg _ hstart
  | opening | sending | awaitingReply | unused7 => rfl

theorem needSession_setTimer {f : State → State} (hf : ∀ s, f (s.setTimer v) = (f s).setTimer v) (s : State) :
    needSession f (s.setTimer v) = (needSession f s).setTimer v := by
  unfold needSession
  rw [State.setTimer_seqState]
  split
  · rfl
  · exact hf s

theorem acceptPacket_setTimer (hop : Byte) (pkt : Packet) (k : Kind) (s : State) :
    acceptPacket hop pkt k (s.setTimer v) = onNext (·.setTimer v) (acceptPacket hop pkt k s) :=
  accept_setTimer v (needSession_setTimer v fun _ => rfl) s

theorem acceptReserved_setTimer (hop : Byte) (s : State) :
    acceptReserved hop (s.setTimer v) = onNext (·.setTimer v) (acceptReserved hop s) :=
  accept_setTimer v (fun _ => rfl) s

theorem issuePacket_setTimer (pkt : Packet) (k : Kind) (s : State) :
    issuePacket pkt k (s.setTimer v) = onNext (·.setTimer v) (issuePacket pkt k s) := by
  have hstart := needSession_setTimer (f := fun s => s.dispatch pkt k) v (fun _ => rfl) s
  unfold issuePacket
  rw [State.setTimer_seqState]
  cases s.seqState with
  | disconnected | connected | idle | unresponsive => exact congrArg _ hstart
  | opening | sending | awaitingReply | unused7 => rfl

theorem execConnect_setTimer (speed : Word32) (s : State) :
    execConnect speed (s.setTimer v) = onNext (·.setTimer v) (execConnect speed s) := by
  refine accept_setTimer v (fun s => ?_) s
  rw [State.setTimer_seqState]
  split <;> rfl

theorem execSetMode_setTimer (name : Word32) (s : State) :
    execSetMode name (s.setTimer v) = onNext (·.setTimer v) (execSetMode name s) := by
  refine accept_setTimer v (fun s => ?_) s
  cases modeByName name with
  | none => rfl
  | some m => exact needSession_setTimer v (fun _ => rfl) s

/-- No instruction reads or writes `tmr`. -/
theorem exec_setTimer (i : Instr) (s : State) : exec i (s.setTimer v) = onNext (·.setTimer v) (exec i s) := by
  cases i with
  | connect speed => exact execConnect_setTimer v speed s
  | disconnect => exact accept_setTimer v (needSession_setTimer v fun _ => rfl) s
  | setMode name => exact execSetMode_setTimer v name s
  | lockOn | lockOff | pttOn | pttOff | setFreq | getFreqMode | getRxStatus | getTxStatus =>
    exact acceptPacket_setTimer v _ _ _ s
  | reserved00 | reserved0C | reserved10 | reserved20 | reserved40 | reserved80 => exact acceptReserved_setTimer v _ s
  | catLockOn | catLockOff | catPttOn | catPttOff | catSetFrequency | catSetMode | catGetFreqMode | catGetRxStatus
  | catGetTxStatus => exact issuePacket_setTimer v _ _ s

theorem readyStep_setTimer (p : PortIn) (s : State) :
    readyStep p (s.setTimer v) = onNext (·.setTimer v) (readyStep p s) := by
  unfold readyStep
  split
  · exact exec_setTimer v _ s
  · rfl

variable (s : State)

theorem State.openingStep_setTimer (p : PortIn) : (s.setTimer v).openingStep p = (s.openingStep p).setTimer v := by
  unfold State.openingStep
  split
  · split <;> rfl
  · rfl

theorem State.capture_setTimer (p : PortIn) : (s.setTimer v).capture p = (s.capture p).setTimer v := by
  have hcap : captures (s.setTimer v) p = captures s p := rfl
  unfold State.capture
  rw [hcap]
  split <;> rfl

theorem State.decodeCommit_setTimer : (s.setTimer v).decodeCommit = s.decodeCommit.setTimer v := by
  unfold State.decodeCommit
  rw [State.setTimer_kind]
  split
  · rfl
  · rfl
  · rw [State.setTimer_rxbuf]
    split <;> rfl
  · rfl

/-- A write answer leaves `tmr` alone or starts it from TIMEOUT_CYCLES (R178). -/
theorem State.writeAnswer_setTimer (c : BitVec 3) :
    ∃ v', (s.setTimer v).writeAnswer c = (s.writeAnswer c).setTimer v' := by
  unfold State.writeAnswer
  rw [State.setTimer_kind, State.setTimer_rxcnt, State.decodeCommit_setTimer]
  split_ifs
  · exact ⟨v, rfl⟩
  · exact ⟨v, rfl⟩
  · exact ⟨v, rfl⟩
  · exact ⟨s.cfg.timeoutCycles, rfl⟩

theorem State.sendingStep_setTimer (p : PortIn) : ∃ v', (s.setTimer v).sendingStep p = (s.sendingStep p).setTimer v' := by
  unfold State.sendingStep
  rw [State.capture_setTimer]
  split
  · exact (s.capture p).writeAnswer_setTimer v p.txCount
  · exact ⟨v, rfl⟩

end

/-! ### The two elements at a whole edge -/

theorem clockEdge_setLastHop (p : PortIn) (s : State) (h : Byte) :
    ∃ h', clockEdge p (s.setLastHop h) = onNext (·.setLastHop h') (clockEdge p s) := by
  unfold clockEdge
  rw [State.setLastHop_doneR, State.setLastHop_result, State.setLastHop_seqState]
  split
  · exact ⟨0, rfl⟩
  split
  · exact ⟨h, rfl⟩
  cases hq : s.seqState with
  | disconnected | connected | idle | unresponsive =>
    exact readyStep_setLastHop (s := s.pulseDefaults) h (by simp [hq, ready])
  | opening => exact ⟨h, congrArg _ (s.pulseDefaults.openingStep_setLastHop h p)⟩
  | sending => exact ⟨h, congrArg _ (s.pulseDefaults.sendingStep_setLastHop h p)⟩
  | awaitingReply => exact ⟨h, congrArg _ (s.pulseDefaults.awaitStep_setLastHop h p)⟩
  | unused7 => exact ⟨h, rfl⟩

theorem clockEdge_setTimer (p : PortIn) (s : State) (v : Word32) (hne : s.seqState ≠ .awaitingReply) :
    ∃ v', clockEdge p (s.setTimer v) = onNext (·.setTimer v') (clockEdge p s) := by
  unfold clockEdge
  rw [State.setTimer_doneR, State.setTimer_result, State.setTimer_seqState]
  split
  · exact ⟨0, rfl⟩
  split
  · exact ⟨v, rfl⟩
  cases hq : s.seqState with
  | disconnected | connected | idle | unresponsive => exact ⟨v, readyStep_setTimer v p s.pulseDefaults⟩
  | opening => exact ⟨v, congrArg _ (s.pulseDefaults.openingStep_setTimer v p)⟩
  | sending =>
    obtain ⟨v', hv⟩ := s.pulseDefaults.sendingStep_setTimer v p
    exact ⟨v', congrArg _ hv⟩
  | awaitingReply => exact absurd hq hne
  | unused7 => exact ⟨v, rfl⟩

theorem step_setLastHop (s : State) (h : Byte) :
    ∃ h', step (s.setLastHop h) = onNext (·.setLastHop h') (step s) := by
  unfold step
  rw [State.setLastHop_cfg]
  split
  · exact clockEdge_setLastHop s.sample s.advance h
  · exact ⟨h, rfl⟩

theorem step_setTimer (s : State) (v : Word32) (hne : s.seqState ≠ .awaitingReply) :
    ∃ v', step (s.setTimer v) = onNext (·.setTimer v') (step s) := by
  unfold step
  rw [State.setTimer_cfg]
  split
  · exact clockEdge_setTimer s.sample s.advance v hne
  · exact ⟨v, rfl⟩

/-- Settles O36: what an edge records, and that every operation carries another `last_hop` along unread. -/
theorem lastHopRecordedAndNeverRead : Obligations.LastHopRecordedAndNeverRead := by
  refine ⟨fun s t p hr ht => (step_seeing_cases ht).lastHop_eq hr, fun s h => ?_⟩
  exact onNext_outcomes (f := fun h t => t.setLastHop h) (step_setLastHop s h)

/-- Settles O37: outside AWAITING_REPLY every operation carries another `tmr` along, or starts it anew. -/
theorem timerUnreadOutsideAwaiting : Obligations.TimerUnreadOutsideAwaiting := by
  intro s v hne
  exact onNext_outcomes (f := fun v t => t.setTimer v) (step_setTimer s v hne)

end Sys2Proof.Machine

/-! ## Proofs: the status space, field by field (10_state.md R35 to R44) -/

namespace Sys2Proof.Machine

theorem getLsbD_bit (b : Bool) : (bit b).getLsbD 0 = b := by cases b <;> rfl

section
variable (s : State)

/-! ### The words at their addresses (20_memory.md R61) -/

theorem stsRead_seq : stsRead s 0 = wordSeq s := rfl
theorem stsRead_freq : stsRead s 1 = wordFreq s := rfl
theorem stsRead_mode : stsRead s 2 = wordMode s := rfl
theorem stsRead_rxst : stsRead s 3 = wordRxst s := rfl
theorem stsRead_txst : stsRead s 4 = wordTxst s := rfl
theorem stsRead_txpktLo : stsRead s 5 = packPayload s.txpkt := rfl
theorem stsRead_txpktHi : stsRead s 6 = wordTxpktHi s := rfl
theorem stsRead_rxbufLo : stsRead s 7 = packPayload s.rxbuf := rfl
theorem stsRead_rxbufHi : stsRead s 8 = wordRxbufHi s := rfl
theorem stsRead_tmo : stsRead s 9 = s.cfg.timeoutCycles := rfl
theorem stsRead_fmraw : stsRead s 10 = wordFmraw s := rfl

theorem stsRead_reserved {a : BitVec 4} (h : 11 ≤ a.toNat) : stsRead s a = 0 := by
  obtain ⟨k, hk⟩ : ∃ k, a.toNat = k + 11 := ⟨a.toNat - 11, by omega⟩
  unfold stsRead
  rw [hk]
  rfl

/-! ### The fields of the ungated words -/

theorem wordSeq_fields :
    (wordSeq s).extractLsb' 0 3 = seqBits s.seqState ∧ (wordSeq s).getLsbD 3 = busy s.seqState ∧
    (wordSeq s).getLsbD 4 = s.unresp ∧ (wordSeq s).getLsbD 5 = s.firstQ ∧
    (wordSeq s).extractLsb' 6 2 = 0 ∧ (wordSeq s).extractLsb' 8 4 = s.result ∧
    (wordSeq s).extractLsb' 12 4 = 0 ∧ (wordSeq s).extractLsb' 16 8 = s.lastHop ∧
    (wordSeq s).extractLsb' 24 2 = kindBits s.kind ∧ (wordSeq s).extractLsb' 26 6 = 0 := by
  unfold wordSeq
  refine ⟨?_, ?_, ?_, ?_, ?_, ?_, ?_, ?_, ?_, ?_⟩ <;>
    simp (disch := omega) only [field_above, field_below, field_all, bit_above, bit_below, getLsbD_bit, Nat.reduceSub]
  all_goals rfl

theorem packPayload_fields (p : Packet) :
    (packPayload p).extractLsb' 24 8 = p.b0 ∧ (packPayload p).extractLsb' 16 8 = p.b1 ∧
    (packPayload p).extractLsb' 8 8 = p.b2 ∧ (packPayload p).extractLsb' 0 8 = p.b3 := by
  unfold packPayload
  refine ⟨?_, ?_, ?_, ?_⟩ <;> simp (disch := omega) only [field_above, field_below, field_all, Nat.reduceSub]

theorem wordTxpktHi_fields :
    (wordTxpktHi s).extractLsb' 0 8 = s.txpkt.b4 ∧ (wordTxpktHi s).extractLsb' 8 23 = 0 ∧
    (wordTxpktHi s).getLsbD 31 = s.txpktValid := by
  unfold wordTxpktHi
  refine ⟨?_, ?_, ?_⟩ <;>
    simp (disch := omega) only [field_above, field_below, field_all, bit_above, getLsbD_bit, Nat.reduceSub]
  rfl

theorem wordRxbufHi_fields :
    (wordRxbufHi s).extractLsb' 0 8 = s.rxbuf.b4 ∧ (wordRxbufHi s).extractLsb' 8 3 = s.rxcnt ∧
    (wordRxbufHi s).extractLsb' 11 21 = 0 := by
  unfold wordRxbufHi
  refine ⟨?_, ?_, ?_⟩ <;> simp (disch := omega) only [field_above, field_below, field_all, Nat.reduceSub]
  rfl

/-! ### The fields of the frequency/mode words -/

theorem wordFreq_fields (hv : s.fmValid = true) :
    (wordFreq s).extractLsb' 0 28 = BitVec.ofNat 28 (decFreqValue s.fmRaw.payload) ∧
    (wordFreq s).extractLsb' 28 2 = 0 ∧ (wordFreq s).getLsbD 30 = nonBcd s.fmRaw.payload ∧
    (wordFreq s).getLsbD 31 = true := by
  rw [wordFreq, if_pos hv, decFreq]
  refine ⟨?_, ?_, ?_, ?_⟩ <;>
    simp (disch := omega) only [field_above, field_below, field_all, bit_above, bit_below, getLsbD_bit, Nat.reduceSub]
  all_goals rfl

theorem wordMode_fields (hv : s.fmValid = true) :
    (wordMode s).extractLsb' 0 8 = s.fmRaw.b4 ∧
    (wordMode s).extractLsb' 8 4 = modeIndex (modeByCode s.cfg.modeCode s.fmRaw.b4) ∧
    (wordMode s).extractLsb' 12 19 = 0 ∧ (wordMode s).getLsbD 31 = true := by
  rw [wordMode, if_pos hv]
  refine ⟨?_, ?_, ?_, ?_⟩ <;>
    simp (disch := omega) only [field_above, field_below, field_all, bit_above, Nat.reduceSub]
  all_goals rfl

theorem wordFmraw_eq (hv : s.fmValid = true) : wordFmraw s = packPayload s.fmRaw := if_pos hv

theorem fmWords_absent (hv : s.fmValid = false) : wordFreq s = 0 ∧ wordMode s = 0 ∧ wordFmraw s = 0 := by
  simp [wordFreq, wordMode, wordFmraw, hv]

/-! ### The fields of the two status bytes' words -/

theorem wordRxst_absent (hv : s.rxValid = false) : wordRxst s = 0 := by simp [wordRxst, hv]

theorem wordRxst_fields (hv : s.rxValid = true) :
    (wordRxst s).extractLsb' 0 8 = s.rxRaw ∧ (wordRxst s).extractLsb' 8 4 = s.rxRaw.extractLsb' 0 4 ∧
    (wordRxst s).getLsbD 12 = !s.rxRaw.getLsbD 5 ∧ (wordRxst s).getLsbD 13 = s.rxRaw.getLsbD 6 ∧
    (wordRxst s).getLsbD 14 = s.rxRaw.getLsbD 7 ∧ (wordRxst s).extractLsb' 15 16 = 0 ∧
    (wordRxst s).getLsbD 31 = true := by
  rw [wordRxst, if_pos hv]
  refine ⟨?_, ?_, ?_, ?_, ?_, ?_, ?_⟩ <;>
    simp (disch := omega) only [field_above, field_below, field_all, bit_above, bit_below, getLsbD_bit, Nat.reduceSub]
  all_goals rfl

theorem wordTxst_absent (hv : s.txValid = false) : wordTxst s = 0 := by simp [wordTxst, hv]

theorem wordTxst_fields (hv : s.txValid = true) :
    (wordTxst s).extractLsb' 0 8 = s.txRaw ∧ (wordTxst s).extractLsb' 8 4 = s.txRaw.extractLsb' 0 4 ∧
    (wordTxst s).getLsbD 12 = !s.txRaw.getLsbD 5 ∧ (wordTxst s).getLsbD 13 = s.txRaw.getLsbD 6 ∧
    (wordTxst s).getLsbD 14 = s.txRaw.getLsbD 7 ∧ (wordTxst s).extractLsb' 15 16 = 0 ∧
    (wordTxst s).getLsbD 31 = true := by
  rw [wordTxst, if_pos hv]
  refine ⟨?_, ?_, ?_, ?_, ?_, ?_, ?_⟩ <;>
    simp (disch := omega) only [field_above, field_below, field_all, bit_above, bit_below, getLsbD_bit, Nat.reduceSub]
  all_goals rfl

end

/-! ### Frequencies and modes -/

theorem byteWeight_eq (b : Byte) : byteWeight b = 10 * (b.toNat / 16) + b.toNat % 16 := by
  rw [byteWeight, highNibble_eq, lowNibble_eq]

theorem byteNonBcd_iff (b : Byte) : byteNonBcd b = true ↔ 9 < b.toNat / 16 ∨ 9 < b.toNat % 16 := by
  simp [byteNonBcd, highNibble_eq, lowNibble_eq]

theorem nonBcd_iff (f : FreqBytes) :
    nonBcd f = true ↔ ∃ b ∈ [f.f0, f.f1, f.f2, f.f3], 9 < b.toNat / 16 ∨ 9 < b.toNat % 16 := by
  simp [nonBcd, byteNonBcd_iff, or_assoc]

/-- A nibble weighs at most 15, so a byte at most 165. -/
theorem byteWeight_le (b : Byte) : byteWeight b ≤ 165 := by
  have := b.isLt
  rw [byteWeight_eq]
  omega

/-- The sum of R134 fits the 28 bits of FREQ_N, whatever the nibbles. -/
theorem decFreqValue_lt (f : FreqBytes) : decFreqValue f < 2 ^ 28 := by
  have h0 := byteWeight_le f.f0
  have h1 := byteWeight_le f.f1
  have h2 := byteWeight_le f.f2
  have h3 := byteWeight_le f.f3
  unfold decFreqValue
  omega

theorem decFreqValue_eq (f : FreqBytes) :
    decFreqValue f =
      10 ^ 6 * (10 * (f.f0.toNat / 16) + f.f0.toNat % 16) + 10 ^ 4 * (10 * (f.f1.toNat / 16) + f.f1.toNat % 16) +
      10 ^ 2 * (10 * (f.f2.toNat / 16) + f.f2.toNat % 16) + (10 * (f.f3.toNat / 16) + f.f3.toNat % 16) := by
  unfold decFreqValue
  rw [byteWeight_eq, byteWeight_eq, byteWeight_eq, byteWeight_eq]
  ring

/-- In an injective table a mode is found by its own code (R122). -/
theorem modeByCode_modeCode {t : ModeTable} (hinj : ∀ m n : Mode, modeCode t m = modeCode t n → m = n) (m : Mode) :
    modeByCode t (modeCode t m) = some m := by
  have hpred : (fun n => decide (modeCode t m = modeCode t n)) = fun n => decide (m = n) := by
    funext n
    exact decide_eq_decide.2 ⟨hinj m n, congrArg _⟩
  rw [modeByCode, hpred]
  cases m <;> rfl

theorem modeByCode_eq_none {t : ModeTable} {c : Byte} (h : ∀ m, c ≠ modeCode t m) : modeByCode t c = none := by
  simp [modeByCode, h]

/-! ### The statements -/

/-- Settles O42, from the fields of each word. -/
theorem ungatedStatusWords : Obligations.UngatedStatusWords := by
  intro s
  obtain ⟨hstate, hbusy, -, -, -, -, -, -, hkind, -⟩ := wordSeq_fields s
  rw [stsRead_seq, stsRead_txpktLo, stsRead_txpktHi, stsRead_rxbufLo, stsRead_rxbufHi]
  refine ⟨?_, ?_, wordSeq_fields s, ?_, ?_, stsRead_tmo s, fun a ha => stsRead_reserved s ha⟩
  · rw [hstate, hbusy]
    cases s.seqState <;> simp [seqBits, busy]
  · rw [hkind]
    cases s.kind <;> simp [kindBits]
  · obtain ⟨h0, h1, h2, h3⟩ := packPayload_fields s.txpkt
    exact ⟨h0, h1, h2, h3, wordTxpktHi_fields s⟩
  · obtain ⟨h0, h1, h2, h3⟩ := packPayload_fields s.rxbuf
    exact ⟨h0, h1, h2, h3, wordRxbufHi_fields s⟩

/-- Settles O43: FREQ_N by the sum of R134, MODE by the injective table. -/
theorem freqModeStatusWords : Obligations.FreqModeStatusWords := by
  intro s
  rw [stsRead_freq, stsRead_mode, stsRead_fmraw]
  refine ⟨fmWords_absent s, fun hv => ?_, fun hv hc => ?_⟩
  · obtain ⟨hn, hzero, hnon, hvalid⟩ := wordFreq_fields s hv
    obtain ⟨hcode, hindex, hzero', hvalid'⟩ := wordMode_fields s hv
    rw [wordFmraw_eq s hv, hn, hnon, BitVec.toNat_ofNat, Nat.mod_eq_of_lt (decFreqValue_lt _)]
    exact ⟨decFreqValue_eq _, hzero, nonBcd_iff _, hvalid, hcode, hindex, hzero', hvalid', packPayload_fields _⟩
  · obtain ⟨-, hindex, -, -⟩ := wordMode_fields s hv
    have hinj := ((configWf_iff _).1 hc).2
    have hfound : ∀ m, s.fmRaw.b4 = modeCode s.cfg.modeCode m →
        (wordMode s).extractLsb' 8 4 = modeIndex (some m) := by
      intro m hm
      rw [hindex, hm, modeByCode_modeCode hinj]
    refine ⟨hfound .lsb, hfound .usb, hfound .cw, hfound .cwr, hfound .am, hfound .wfm, hfound .fm, hfound .fmn,
      hfound .dig, hfound .pkt, fun hnone => ?_⟩
    rw [hindex, modeByCode_eq_none hnone]
    rfl

/-- Settles O44. -/
theorem rxStatusWord : Obligations.RxStatusWord := by
  intro s
  rw [stsRead_rxst]
  exact ⟨wordRxst_absent s, wordRxst_fields s⟩

/-- Settles O45. -/
theorem txStatusWord : Obligations.TxStatusWord := by
  intro s
  rw [stsRead_txst]
  exact ⟨wordTxst_absent s, wordTxst_fields s⟩

end Sys2Proof.Machine

/-! ## Proofs: the two encodings (30_encoding.md R70 to R76, R80, R81, R88, R89) -/

namespace Sys2Proof

/-! ### Fixed high bits and free low bits of a byte -/

/-- A mask-and-match test of the opcode table is a range test: the high bits of a byte are `c` between `c` followed by
zeros and `c` followed by ones. -/
theorem extract_high_eq_iff_range {h l : Nat} (hl : h + l = 8) (b : Byte) (c : BitVec h) :
    b.extractLsb' l h = c ↔ c.toNat * 2 ^ l ≤ b.toNat ∧ b.toNat < (c.toNat + 1) * 2 ^ l := by
  have hlt : b.toNat / 2 ^ l < 2 ^ h := by
    rw [Nat.div_lt_iff_lt_mul (by positivity), ← pow_add, hl]
    exact b.isLt
  rw [extract_eq_iff, Nat.mod_eq_of_lt hlt, Nat.div_eq_iff (by positivity), Nat.le_sub_one_iff_lt (by positivity),
    Nat.succ_mul]

/-- Fixed bits `c` followed by free ones lie in the range of `c`. -/
theorem append_range {h l : Nat} (c : BitVec h) (low : BitVec l) :
    c.toNat * 2 ^ l ≤ (c ++ low).toNat ∧ (c ++ low).toNat < (c.toNat + 1) * 2 ^ l := by
  have hlow := low.isLt
  rw [BitVec.toNat_append, ← Nat.shiftLeft_add_eq_or_of_lt hlow, Nat.shiftLeft_eq, Nat.succ_mul]
  omega

/-- The free bits are read back whole. -/
theorem extract_low_append {h l : Nat} (c : BitVec h) (low : BitVec l) : (c ++ low).extractLsb' 0 l = low := by
  rw [field_below _ _ _ _ (by omega), field_all]

/-- The free bits count from a byte that has them all zero. -/
theorem extract_low_eq_ofNat_sub {l base : Nat} {b : Byte} (hbase : 2 ^ l ∣ base) (hle : base ≤ b.toNat) :
    b.extractLsb' 0 l = BitVec.ofNat l (b.toNat - base) := by
  obtain ⟨k, rfl⟩ := hbase
  apply BitVec.eq_of_toNat_eq
  rw [BitVec.extractLsb'_toNat, BitVec.toNat_ofNat, Nat.shiftRight_zero, Nat.sub_mul_mod hle]

/-! ### The host opcode map as ranges of HOP (R80, R81) -/

/-- Below the reserved ranges every HOP is one of twelve. -/
theorem hop_of_lt {hop : Byte} (h : hop.toNat < 0x0C) :
    hop = 0x00 ∨ hop = 0x01 ∨ hop = 0x02 ∨ hop = 0x03 ∨ hop = 0x04 ∨ hop = 0x05 ∨ hop = 0x06 ∨ hop = 0x07 ∨
      hop = 0x08 ∨ hop = 0x09 ∨ hop = 0x0A ∨ hop = 0x0B := by
  bv_omega

section
variable {hop : Byte} (arg : Word32)

/-- From 0x0C on the map is a split of HOP into five ranges (R81). -/
theorem decodeHop_of_ge (h : 0x0C ≤ hop.toNat) :
    decodeHop hop arg =
      if 0x0C ≤ hop.toNat ∧ hop.toNat < 0x10 then .reserved0C (hop.extractLsb' 0 2) arg
      else if 0x10 ≤ hop.toNat ∧ hop.toNat < 0x20 then .reserved10 (hop.extractLsb' 0 4) arg
      else if 0x20 ≤ hop.toNat ∧ hop.toNat < 0x40 then .reserved20 (hop.extractLsb' 0 5) arg
      else if 0x40 ≤ hop.toNat ∧ hop.toNat < 0x80 then .reserved40 (hop.extractLsb' 0 6) arg
      else .reserved80 (hop.extractLsb' 0 7) arg := by
  have hne : ∀ k : Byte, k.toNat < 0x0C → ¬hop = k := by
    rintro k hk rfl; omega
  simp [decodeHop, hne, extract_high_eq_iff_range]

theorem decodeHop_row0C (lo : 0x0C ≤ hop.toNat) (hi : hop.toNat < 0x10) :
    decodeHop hop arg = .reserved0C (hop.extractLsb' 0 2) arg := by
  rw [decodeHop_of_ge arg lo, if_pos ⟨lo, hi⟩]

theorem decodeHop_row10 (lo : 0x10 ≤ hop.toNat) (hi : hop.toNat < 0x20) :
    decodeHop hop arg = .reserved10 (hop.extractLsb' 0 4) arg := by
  rw [decodeHop_of_ge arg (by omega), if_neg (by omega), if_pos ⟨lo, hi⟩]

theorem decodeHop_row20 (lo : 0x20 ≤ hop.toNat) (hi : hop.toNat < 0x40) :
    decodeHop hop arg = .reserved20 (hop.extractLsb' 0 5) arg := by
  rw [decodeHop_of_ge arg (by omega), if_neg (by omega), if_neg (by omega), if_pos ⟨lo, hi⟩]

theorem decodeHop_row40 (lo : 0x40 ≤ hop.toNat) (hi : hop.toNat < 0x80) :
    decodeHop hop arg = .reserved40 (hop.extractLsb' 0 6) arg := by
  rw [decodeHop_of_ge arg (by omega), if_neg (by omega), if_neg (by omega), if_neg (by omega), if_pos ⟨lo, hi⟩]

theorem decodeHop_row80 (lo : 0x80 ≤ hop.toNat) :
    decodeHop hop arg = .reserved80 (hop.extractLsb' 0 7) arg := by
  rw [decodeHop_of_ge arg (by omega), if_neg (by omega), if_neg (by omega), if_neg (by omega), if_neg (by omega)]

end

theorem decode_hostWord (hop : Byte) (arg : Word32) : decode (.host (hostWord hop arg)) = .ok (decodeHop hop arg) :=
  congrArg Except.ok (decodeHost_hostWord hop arg)

/-! ### Encoding what a host word decodes to -/

/-- A HOP in the range of a row's fixed bits `c` is put together again from `c` and its free bits. -/
theorem hostWord_of_row {h l : Nat} (hl : h + l = 8) {hop : Byte} (arg : Word32) {c : BitVec h}
    (lo : c.toNat * 2 ^ l ≤ hop.toNat) (hi : hop.toNat < (c.toNat + 1) * 2 ^ l) :
    hostWord ((c ++ hop.extractLsb' 0 l).cast hl) arg = hostWord hop arg := by
  rw [Machine.hop_of_row hl ((extract_high_eq_iff_range hl hop c).2 ⟨lo, hi⟩)]

/-- Every HOP decodes to a well-formed instruction, whose code has this HOP and this ARG. -/
theorem decodeHop_roundTrip (hop : Byte) (arg : Word32) :
    (decodeHop hop arg).wf = true ∧ encode (decodeHop hop arg) = .host (hostWord hop arg) := by
  have hrange : hop.toNat < 0x0C ∨ (0x0C ≤ hop.toNat ∧ hop.toNat < 0x10) ∨ (0x10 ≤ hop.toNat ∧ hop.toNat < 0x20) ∨
      (0x20 ≤ hop.toNat ∧ hop.toNat < 0x40) ∨ (0x40 ≤ hop.toNat ∧ hop.toNat < 0x80) ∨ 0x80 ≤ hop.toNat := by
    omega
  rcases hrange with named | ⟨lo, hi⟩ | ⟨lo, hi⟩ | ⟨lo, hi⟩ | ⟨lo, hi⟩ | lo
  · rcases hop_of_lt named with rfl | rfl | rfl | rfl | rfl | rfl | rfl | rfl | rfl | rfl | rfl | rfl <;>
      exact ⟨rfl, rfl⟩
  · rw [decodeHop_row0C arg lo hi]
    exact ⟨rfl, congrArg Code.host (hostWord_of_row (h := 6) (l := 2) rfl arg lo hi)⟩
  · rw [decodeHop_row10 arg lo hi]
    exact ⟨rfl, congrArg Code.host (hostWord_of_row (h := 4) (l := 4) rfl arg lo hi)⟩
  · rw [decodeHop_row20 arg lo hi]
    exact ⟨rfl, congrArg Code.host (hostWord_of_row (h := 3) (l := 5) rfl arg lo hi)⟩
  · rw [decodeHop_row40 arg lo hi]
    exact ⟨rfl, congrArg Code.host (hostWord_of_row (h := 2) (l := 6) rfl arg lo hi)⟩
  · rw [decodeHop_row80 arg lo]
    exact ⟨rfl, congrArg Code.host (hostWord_of_row (h := 1) (l := 7) rfl arg lo hop.isLt)⟩

/-! ### Encoding what a CAT packet decodes to (R74 to R76) -/

/-- A packet without operand decodes to its instruction only where its payload is all zeros. -/
theorem decodePlain_cases {p : Packet} {i j : Instr} (h : decodePlain p i = .ok j) :
    j = i ∧ p = ⟨0, 0, 0, 0, p.b4⟩ := by
  unfold decodePlain at h
  split at h
  · next hp =>
    cases h
    obtain ⟨b0, b1, b2, b3, b4⟩ := p
    cases hp
    exact ⟨rfl, rfl⟩
  · cases h

theorem decodePlain_roundTrip {p : Packet} {i j : Instr} {op : Byte} (h : decodePlain p i = .ok j) (hop : p.b4 = op)
    (hwf : i.wf = true) (henc : encode i = .packet ⟨0, 0, 0, 0, op⟩) : j.wf = true ∧ encode j = .packet p := by
  obtain ⟨rfl, hp⟩ := decodePlain_cases h
  exact ⟨hwf, by rw [henc, ← hop, ← hp]⟩

/-- A SET_FREQUENCY packet is refused exactly when its bytes are not BCD (41_freq_codec.md R137). -/
theorem decodePacket_setFreqBytes (f : FreqBytes) :
    decodePacket (Machine.packetSetFreqBytes f) =
      if Machine.nonBcd f then .error .nonBcdFrequency else .ok (.catSetFrequency f) := rfl

theorem decodePacket_roundTrip {p : Packet} {i : Instr} (h : decodePacket p = .ok i) :
    i.wf = true ∧ encode i = .packet p := by
  unfold decodePacket at h
  by_cases lockOn : p.b4 = 0x00#8
  · rw [if_pos lockOn] at h
    exact decodePlain_roundTrip h lockOn rfl rfl
  rw [if_neg lockOn] at h
  by_cases lockOff : p.b4 = 0x80#8
  · rw [if_pos lockOff] at h
    exact decodePlain_roundTrip h lockOff rfl rfl
  rw [if_neg lockOff] at h
  by_cases pttOn : p.b4 = 0x08#8
  · rw [if_pos pttOn] at h
    exact decodePlain_roundTrip h pttOn rfl rfl
  rw [if_neg pttOn] at h
  by_cases pttOff : p.b4 = 0x88#8
  · rw [if_pos pttOff] at h
    exact decodePlain_roundTrip h pttOff rfl rfl
  rw [if_neg pttOff] at h
  by_cases setFreq : p.b4 = 0x01#8
  · rw [if_pos setFreq] at h
    split at h
    · cases h
    next nonBcd =>
    cases h
    obtain ⟨b0, b1, b2, b3, b4⟩ := p
    cases setFreq
    exact ⟨by simpa [Instr.wf] using nonBcd, rfl⟩
  rw [if_neg setFreq] at h
  by_cases setMode : p.b4 = 0x07#8
  · rw [if_pos setMode] at h
    split at h
    · next padding =>
      cases h
      obtain ⟨b0, b1, b2, b3, b4⟩ := p
      obtain ⟨⟨⟩, ⟨⟩, ⟨⟩⟩ := padding
      cases setMode
      exact ⟨rfl, rfl⟩
    · cases h
  rw [if_neg setMode] at h
  by_cases getFreqMode : p.b4 = 0x03#8
  · rw [if_pos getFreqMode] at h
    exact decodePlain_roundTrip h getFreqMode rfl rfl
  rw [if_neg getFreqMode] at h
  by_cases getRxStatus : p.b4 = 0xE7#8
  · rw [if_pos getRxStatus] at h
    exact decodePlain_roundTrip h getRxStatus rfl rfl
  rw [if_neg getRxStatus] at h
  by_cases getTxStatus : p.b4 = 0xF7#8
  · rw [if_pos getTxStatus] at h
    exact decodePlain_roundTrip h getTxStatus rfl rfl
  rw [if_neg getTxStatus] at h
  cases h

/-! ### The obligations -/

/-- Settles O49: a reserved row's code lies in the range that the map splits off for that row. -/
theorem decodeOfEncode : Obligations.DecodeOfEncode := by
  intro i hwf
  cases i with
  | connect arg | disconnect arg | lockOn arg | lockOff arg | pttOn arg | pttOff arg | setFreq arg | setMode arg
  | getFreqMode arg | getRxStatus arg | getTxStatus arg | reserved00 arg => exact decode_hostWord _ arg
  | reserved0C low arg =>
    obtain ⟨lo, hi⟩ := append_range 0b000011#6 low
    rw [encode, decode_hostWord, decodeHop_row0C arg lo hi, extract_low_append]
  | reserved10 low arg =>
    obtain ⟨lo, hi⟩ := append_range 0b0001#4 low
    rw [encode, decode_hostWord, decodeHop_row10 arg lo hi, extract_low_append]
  | reserved20 low arg =>
    obtain ⟨lo, hi⟩ := append_range 0b001#3 low
    rw [encode, decode_hostWord, decodeHop_row20 arg lo hi, extract_low_append]
  | reserved40 low arg =>
    obtain ⟨lo, hi⟩ := append_range 0b01#2 low
    rw [encode, decode_hostWord, decodeHop_row40 arg lo hi, extract_low_append]
  | reserved80 low arg =>
    obtain ⟨lo, -⟩ := append_range 0b1#1 low
    rw [encode, decode_hostWord, decodeHop_row80 arg lo, extract_low_append]
  | catSetFrequency f =>
    have hbcd : ¬Machine.nonBcd f = true := by simpa [Instr.wf] using hwf
    exact (decodePacket_setFreqBytes f).trans (if_neg hbcd)
  | catSetMode code => rfl
  | catLockOn | catLockOff | catPttOn | catPttOff | catGetFreqMode | catGetRxStatus | catGetTxStatus => rfl

/-- Settles O12: a reserved HOP is all that its row executes, and the other rows do not read the operand. -/
theorem ignoredArgHasNoEffect : Obligations.IgnoredArgHasNoEffect := by
  intro a b hop s hconnect hsetFreq hsetMode
  rw [decodeHost_hostWord, decodeHost_hostWord]
  by_cases hreserved : hop = 0x00 ∨ 0x0C ≤ hop.toNat
  · rw [Machine.exec_decodeHop_reserved a s hreserved, Machine.exec_decodeHop_reserved b s hreserved]
  · have hhop : hop = 0x02 ∨ hop = 0x03 ∨ hop = 0x04 ∨ hop = 0x05 ∨ hop = 0x06 ∨ hop = 0x09 ∨ hop = 0x0A ∨
        hop = 0x0B := by
      bv_omega
    rcases hhop with rfl | rfl | rfl | rfl | rfl | rfl | rfl | rfl <;> rfl

/-- Settles O50. -/
theorem encodeOfDecode : Obligations.EncodeOfDecode := by
  intro c i h
  cases c with
  | host w =>
    cases h
    obtain ⟨hwf, henc⟩ := decodeHop_roundTrip (hopOf w) (argOf w)
    exact ⟨hwf, henc.trans (congrArg Code.host (hostWord_of_fields w))⟩
  | packet p => exact decodePacket_roundTrip h

/-- Settles O51. -/
theorem hopSelectsCommand : Obligations.HopSelectsCommand := by
  intro arg
  simp only [decodeHost_hostWord]
  refine ⟨rfl, rfl, rfl, rfl, rfl, rfl, rfl, rfl, rfl, rfl, rfl, rfl, fun hop => ⟨?_, ?_, ?_, ?_, ?_⟩⟩
  · intro lo hi
    rw [decodeHop_row0C arg lo (Nat.lt_succ_of_le hi), extract_low_eq_ofNat_sub (by decide) lo]
  · intro lo hi
    rw [decodeHop_row10 arg lo (Nat.lt_succ_of_le hi), extract_low_eq_ofNat_sub (by decide) lo]
  · intro lo hi
    rw [decodeHop_row20 arg lo (Nat.lt_succ_of_le hi), extract_low_eq_ofNat_sub (by decide) lo]
  · intro lo hi
    rw [decodeHop_row40 arg lo (Nat.lt_succ_of_le hi), extract_low_eq_ofNat_sub (by decide) lo]
  · intro lo
    rw [decodeHop_row80 arg lo, extract_low_eq_ofNat_sub (by decide) lo]

/-- Settles O52: eleven closed evaluations of the decoders. -/
theorem writtenOutWordsDecode : Obligations.WrittenOutWordsDecode :=
  ⟨rfl, rfl, rfl, rfl, rfl, rfl, rfl, rfl, rfl, rfl, rfl⟩

/-- Settles O53: seven closed evaluations of the assembler. -/
theorem assembledLines : Obligations.AssembledLines := ⟨rfl, rfl, rfl, rfl, rfl, rfl, rfl⟩

end Sys2Proof

/-! ## Proofs: the mode lookups and the packets of the Command Encoder (40_encoder.md) -/

namespace Sys2Proof.Machine

/-! ### The mode lookups (R121 to R123) -/

/-- A mode is found by its own name: the ten name words of R9 differ. -/
theorem modeByName_nameWord (m : Mode) : modeByName (nameWord m) = some m := by cases m <;> decide

theorem modeByName_eq_none {w : Word32} (h : ∀ m, w ≠ nameWord m) : modeByName w = none := by
  simp [modeByName, h]

/-- What stands nowhere in a table written out mode by mode is no mode's entry, since `modes` lists every mode. -/
theorem ne_of_notMem_map_modes {α : Type} {f : Mode → α} {x : α} (h : x ∉ modes.map f) (m : Mode) : x ≠ f m := by
  rintro rfl
  exact h (List.mem_map_of_mem (mem_modes m))

/-- Settles O48: the round trip of each lookup gives the ten indices, and the lists that R121 and R122 search are the tables
`modeCode t` and `nameWord` over `modes`. -/
theorem modeTableRoundTrip : Obligations.ModeTableRoundTrip := by
  intro t hinj
  have hcode := modeByCode_modeCode ((modeTableInjective_iff t).1 hinj)
  have hcodeIndex (m : Mode) : modeIndex (modeByCode t (modeCode t m)) = modeIndex (some m) := congrArg _ (hcode m)
  have hnameIndex (m : Mode) : modeIndex (modeByName (nameWord m)) = modeIndex (some m) :=
    congrArg _ (modeByName_nameWord m)
  refine ⟨fun m => ⟨hcode m, modeByName_nameWord m⟩, ?_, ?_, fun c hc => ?_, fun w hw => ?_⟩
  · exact ⟨hcodeIndex .lsb, hcodeIndex .usb, hcodeIndex .cw, hcodeIndex .cwr, hcodeIndex .am, hcodeIndex .wfm,
      hcodeIndex .fm, hcodeIndex .fmn, hcodeIndex .dig, hcodeIndex .pkt⟩
  · exact ⟨hnameIndex .lsb, hnameIndex .usb, hnameIndex .cw, hnameIndex .cwr, hnameIndex .am, hnameIndex .wfm,
      hnameIndex .fm, hnameIndex .fmn, hnameIndex .dig, hnameIndex .pkt⟩
  · rw [modeByCode_eq_none (ne_of_notMem_map_modes (f := modeCode t) hc)]
    rfl
  · rw [modeByName_eq_none (ne_of_notMem_map_modes (f := nameWord) hw)]
    rfl

/-! ### The packets handed to the transport (R111 to R119, R176) -/

section
variable {s : State} {pkt : Packet} {k : Kind}

/-- A packet without a reply leaves the reply buffer alone. -/
theorem issuePacket_command_of_open (h : sessionOpen s.seqState = true) :
    issuePacket pkt .none s =
      .next { s with txpkt := pkt, txpktValid := true, txStart := true, kind := .none, seqState := .sending } :=
  issuePacket_of_open h

/-- A query also empties the reply buffer. -/
theorem issuePacket_query_of_open (h : sessionOpen s.seqState = true) (hk : k ≠ .none) :
    issuePacket pkt k s =
      .next { s with txpkt := pkt, txpktValid := true, txStart := true, kind := k, seqState := .sending,
                     rxcnt := 0, rxbuf := Packet.zero } := by
  rw [issuePacket_of_open h, State.dispatch, if_neg hk, if_neg hk]

end

/-- Settles O13: each row issues its packet of R111 to R119, the first six as commands and the last three as queries. -/
theorem catPacketsHandedToTransport : Obligations.CatPacketsHandedToTransport := by
  intro s hs
  have hcommand (pkt : Packet) := issuePacket_command_of_open (pkt := pkt) hs
  have hquery (pkt : Packet) {k : Kind} (hk : k ≠ .none) := issuePacket_query_of_open (pkt := pkt) hs hk
  exact ⟨hcommand packetLockOn, hcommand packetLockOff, hcommand packetPttOn, hcommand packetPttOff,
    fun f => hcommand (packetSetFreqBytes f), fun code => hcommand (packetSetModeCode code),
    hquery packetGetFreqMode nofun, hquery packetGetRxStatus nofun, hquery packetGetTxStatus nofun⟩

end Sys2Proof.Machine

/-! ## Proofs: the Frequency Codec (41_freq_codec.md R131 to R137) -/

namespace Sys2Proof.Machine

/-! ### The groups of two decimal digits (R132) are the base-100 digits that the sum of R134 joins -/

theorem freqGroup_zero (m : Nat) : freqGroup m 0 = m % 100 := by rw [freqGroup, Nat.pow_zero, Nat.div_one]

theorem freqGroup_succ (m k : Nat) : freqGroup m (k + 1) = freqGroup (m / 100) k := by
  rw [freqGroup, freqGroup, Nat.pow_succ', Nat.div_div_eq_div_mul]

/-- The four groups of a number of eight digits, joined as in R134, are the number. -/
theorem join_freqGroup {m : Nat} (hm : m < 10 ^ 8) :
    (((0 * 100 + freqGroup m 3) * 100 + freqGroup m 2) * 100 + freqGroup m 1) * 100 + freqGroup m 0 = m := by
  simp only [freqGroup_succ, freqGroup_zero]
  omega

/-- The groups of what R134 joins from four parts are the parts. -/
theorem freqGroup_join {m a b c d : Nat} (hm : m = (((0 * 100 + a) * 100 + b) * 100 + c) * 100 + d)
    (ha : a < 100) (hb : b < 100) (hc : c < 100) (hd : d < 100) :
    freqGroup m 3 = a ∧ freqGroup m 2 = b ∧ freqGroup m 1 = c ∧ freqGroup m 0 = d := by
  simp only [freqGroup_succ, freqGroup_zero]
  omega

/-! ### Decoding an encoding (R136) -/

theorem decFreqValue_encFreq (n : Word32) : decFreqValue (encFreq n) = n.toNat % 10 ^ 8 := by
  have hbyte (m k : Nat) : byteWeight (bcd (freqGroup m k)) = freqGroup m k := byteWeight_bcd _ (freqGroup_lt m k)
  rw [decFreqValue, encFreq, hbyte, hbyte, hbyte, hbyte]
  exact join_freqGroup (Nat.mod_lt _ (by decide))

/-- Settles O46: each byte weighs its group, the groups join to the number, and every encoded byte is BCD. -/
theorem frequencyRoundTrip : Obligations.FrequencyRoundTrip := by
  intro n
  rw [decFreq, decFreqValue_encFreq, nonBcd_encFreq]

/-! ### Encoding what BCD bytes decode to (R137) -/

theorem nonBcd_eq_false_iff (f : FreqBytes) :
    nonBcd f = false ↔
      byteNonBcd f.f0 = false ∧ byteNonBcd f.f1 = false ∧ byteNonBcd f.f2 = false ∧ byteNonBcd f.f3 = false := by
  simp only [nonBcd, Bool.or_eq_false_iff, and_assoc]

/-- A number of eight digits is encoded whole: neither the word nor the codec drops a digit. -/
theorem encFreq_ofNat {m : Nat} (hm : m < 10 ^ 8) :
    encFreq (BitVec.ofNat 32 m) =
      ⟨bcd (freqGroup m 3), bcd (freqGroup m 2), bcd (freqGroup m 1), bcd (freqGroup m 0)⟩ := by
  have hword : (BitVec.ofNat 32 m).toNat = m := Nat.mod_eq_of_lt (hm.trans (by decide))
  rw [encFreq, hword, freqDigits, Nat.mod_eq_of_lt hm]

theorem encFreq_decFreqValue {f : FreqBytes} (h : nonBcd f = false) :
    encFreq (BitVec.ofNat 32 (decFreqValue f)) = f := by
  obtain ⟨h0, h1, h2, h3⟩ := (nonBcd_eq_false_iff f).1 h
  obtain ⟨lt0, bcd0⟩ := bcd_byteWeight f.f0 h0
  obtain ⟨lt1, bcd1⟩ := bcd_byteWeight f.f1 h1
  obtain ⟨lt2, bcd2⟩ := bcd_byteWeight f.f2 h2
  obtain ⟨lt3, bcd3⟩ := bcd_byteWeight f.f3 h3
  have hm : decFreqValue f < 10 ^ 8 := by
    unfold decFreqValue
    omega
  obtain ⟨g3, g2, g1, g0⟩ := freqGroup_join (m := decFreqValue f) rfl lt0 lt1 lt2 lt3
  rw [encFreq_ofNat hm, g3, g2, g1, g0, bcd0, bcd1, bcd2, bcd3]

/-- Settles O47: the groups of what BCD bytes decode to are the weights of the bytes; and every encoding is BCD. -/
theorem frequencyReverseRoundTrip : Obligations.FrequencyReverseRoundTrip := by
  intro f
  refine ⟨encFreq_decFreqValue, fun hnon n henc => ?_⟩
  have hbcd : nonBcd f = false := henc ▸ nonBcd_encFreq n
  exact absurd (hnon.symm.trans hbcd) (by decide)

end Sys2Proof.Machine

/-! ## Proofs: the sequencer, edge by edge (43_sequencer.md) -/

namespace Sys2Proof.Machine

/-! ### A command word at its acceptance edge (R172 to R176) -/

/-- Settles O16: `readyStep` on the state with its pulse registers lowered. -/
theorem stepRunsAcceptedCommand : Obligations.StepRunsAcceptedCommand := by
  intro s p hclocked hready hvalid
  rw [step_of_ready hclocked hready, readyStep, if_pos hvalid]
  rfl

/-- A CAT row is the issue of its own packet, with the kind that its wire opcode asks for. -/
theorem exec_of_encode_packet {i : Instr} {p : Packet} (h : encode i = .packet p) (s : State) :
    exec i s = issuePacket p (packetKind p) s := by
  cases i with
  | connect | disconnect | lockOn | lockOff | pttOn | pttOff | setFreq | setMode | getFreqMode | getRxStatus
  | getTxStatus | reserved00 | reserved0C | reserved10 | reserved20 | reserved40 | reserved80 => cases h
  | catLockOn | catLockOff | catPttOn | catPttOff | catSetFrequency | catSetMode | catGetFreqMode | catGetRxStatus
  | catGetTxStatus => cases h; rfl

/-- Settles O14: a CAT row is an issue of a packet, which needs a session; BUSY and the unused state stop every instruction. -/
theorem catPacketsOutsideSession : Obligations.CatPacketsOutsideSession := by
  intro i p s henc
  refine ⟨fun hq => ?_, exec_of_busy i, exec_of_unused i⟩
  rw [exec_of_encode_packet henc, issuePacket_of_disconnected hq]
  rfl

/-- An instruction that gives a next state met a ready state, or one that is BUSY, where it left everything as it was. -/
theorem ready_or_unchanged_of_exec {i : Instr} {s t : State} (h : exec i s = .next t) :
    ready s.seqState = true ∨ t = s := by
  cases hq : s.seqState with
  | disconnected | connected | idle | unresponsive => exact .inl rfl
  | opening | sending | awaitingReply =>
    rw [exec_of_busy i (by rw [hq]; rfl)] at h
    exact .inr (Host.Outcome.next.inj h).symm
  | unused7 =>
    rw [exec_of_unused i hq] at h
    cases h

/-- Of the four shapes of an acceptance only a dispatch starts a write. -/
theorem Accepted.packet_of_txStart {hop : Byte} {arg : Word32} {s t : State} (h : Accepted hop arg s t)
    (hlow : s.txStart = false) (hstart : t.txStart = true) :
    ∃ i, decodePacket t.txpkt = .ok i ∧ exec i (s.setLastHop hop) = .next t := by
  cases h with
  | rejected | opened | closed => cases hlow.symm.trans hstart
  | dispatched _ _ i _ _ hp _ hi => exact ⟨i, hp, hi⟩

/-- Settles O15, by the shapes of an acceptance. -/
theorem dispatchedCommandIsItsPacket : Obligations.DispatchedCommandIsItsPacket := by
  intro w s t hlow hexec hstart
  rcases ready_or_unchanged_of_exec hexec with hready | rfl
  · obtain ⟨t', he, ha⟩ := exec_decodeHop_cases (hopOf w) (argOf w) s hready
    obtain rfl : t' = t := Host.Outcome.next.inj (he.symm.trans hexec)
    exact ha.packet_of_txStart hlow hstart
  · cases hlow.symm.trans hstart

/-! ### Where `done` is set (R182, R247) -/

theorem busy_of_ready {q : SeqState} (h : ready q = true) : busy q = false := by
  cases q with
  | disconnected | connected | idle | unresponsive | unused7 => rfl
  | opening | sending | awaitingReply => cases h

theorem Accepted.doneR_eq {hop : Byte} {arg : Word32} {s t : State} (h : Accepted hop arg s t)
    (hlow : s.doneR = false) (hready : ready s.seqState = true) : t.doneR = !busy t.seqState := by
  cases h with
  | rejected => simp [busy_of_ready hready]
  | opened | dispatched => exact hlow
  | closed => rfl

theorem openingStep_doneR {s : State} (p : PortIn) (hlow : s.doneR = false) (hq : s.seqState = .opening) :
    (s.openingStep p).doneR = !busy (s.openingStep p).seqState := by
  rcases s.openingStep_cases p with ⟨_, _, e⟩ | ⟨_, _, e⟩ | ⟨_, e⟩ <;> rw [e]
  · rfl
  · rfl
  · rw [hlow, hq]; rfl

theorem InFlight.doneR_eq {u t : State} (h : InFlight u t) (hlow : u.doneR = false) : t.doneR = !busy t.seqState := by
  cases h with
  | waits hq | idles hq _ => rw [hlow, hq]; rfl
  | startsTimer => exact hlow
  | counts hq => rw [State.setTimer_doneR, State.setTimer_seqState, hlow, hq]; rfl
  | ends | commitsFm | commitsRx | commitsTx => simp

/-- Settles O35: every shape of an edge but the idle one sets `done` exactly where it leaves a state that is not BUSY. -/
theorem doneExactlyAtCompletion : Obligations.DoneExactlyAtCompletion := by
  intro s t p hrst ht
  cases step_seeing_cases ht with
  | reset h => cases hrst.symm.trans h
  | still _ hready hv =>
    exact ⟨by simp [busy_of_ready hready, hv], fun _ _ => rfl⟩
  | accepted _ _ hready hv ha => exact ⟨fun _ => ha.doneR_eq rfl hready, fun _ h => by simp [hv] at h⟩
  | opening _ hq =>
    exact ⟨fun _ => openingStep_doneR (s := s.pulseDefaults) p rfl hq, fun h => by simp [hq, ready] at h⟩
  | inFlight _ _ hq hfl =>
    exact ⟨fun _ => hfl.doneR_eq (by simp), fun h => by simp [not_ready_of_exchanging hq] at h⟩

/-! ### Who writes the reply buffer (R33, R176, R177) -/

/-- The two states hold the same reply bytes (R33). -/
structure SameReply (s t : State) : Prop where
  rxcnt : t.rxcnt = s.rxcnt
  rxbuf : t.rxbuf = s.rxbuf

theorem openingStep_sameReply (s : State) (p : PortIn) : SameReply s (s.openingStep p) := by
  rcases s.openingStep_cases p with ⟨_, _, e⟩ | ⟨_, _, e⟩ | ⟨_, e⟩ <;> rw [e] <;> exact ⟨rfl, rfl⟩

theorem InFlight.sameReply {u t : State} (h : InFlight u t) : SameReply u t := by
  cases h <;> exact ⟨rfl, rfl⟩

theorem State.capture_of_stores {s : State} {p : PortIn} (h : s.kind ≠ .none ∧ p.rxValid = true ∧ s.rxcnt.toNat < 5) :
    s.capture p = s.holdReply (setByte s.rxbuf p.rxData s.rxcnt.toNat) (s.rxcnt + 1) := by
  rcases s.capture_cases p with ⟨_, _, _, e⟩ | ⟨hno, _⟩
  · exact e
  · exact absurd h hno

theorem State.capture_of_not_stores {s : State} {p : PortIn}
    (h : ¬(s.kind ≠ .none ∧ p.rxValid = true ∧ s.rxcnt.toNat < 5)) : s.capture p = s := by
  rcases s.capture_cases p with ⟨hk, hv, hn, _⟩ | ⟨_, e⟩
  · exact absurd ⟨hk, hv, hn⟩ h
  · exact e

/-- A dispatch clears the reply buffer for a query, and no other acceptance writes it (R176). -/
theorem Accepted.replyBuffer {hop : Byte} {arg : Word32} {s t : State} (h : Accepted hop arg s t)
    (hlow : s.txStart = false) :
    (t.txStart = true ∧ t.kind ≠ .none ∧ t.rxcnt = 0 ∧ t.rxbuf = Packet.zero) ∨
      (¬(t.txStart = true ∧ t.kind ≠ .none) ∧ SameReply s t) := by
  cases h with
  | rejected | opened | closed => exact .inr ⟨by simp [hlow], rfl, rfl⟩
  | dispatched _ k =>
    by_cases hk : k = .none
    · subst hk; exact .inr ⟨by simp, rfl, rfl⟩
    · exact .inl ⟨rfl, hk, if_neg hk, if_neg hk⟩

/-- An edge outside SENDING and AWAITING_REPLY captures nothing. -/
theorem Edge.replyBuffer {p : PortIn} {s t : State} (h : Edge p s t) (hrst : p.rst = false)
    (hq : ¬(s.seqState = .sending ∨ s.seqState = .awaitingReply)) :
    (t.txStart = true ∧ t.kind ≠ .none ∧ t.rxcnt = 0 ∧ t.rxbuf = Packet.zero) ∨
      (¬(t.txStart = true ∧ t.kind ≠ .none) ∧ SameReply s t) := by
  cases h with
  | reset h => cases hrst.symm.trans h
  | still => exact .inr ⟨by simp, rfl, rfl⟩
  | accepted _ _ _ _ ha =>
    rcases ha.replyBuffer rfl with hclear | ⟨hno, hsame⟩
    · exact .inl hclear
    · exact .inr ⟨hno, { hsame with }⟩
  | opening =>
    refine .inr ⟨?_, { openingStep_sameReply s.pulseDefaults p with }⟩
    simp [(openingStep_sameRequests s.pulseDefaults p).txStart]
  | inFlight _ _ hq' => exact absurd hq' hq

/-- An edge in SENDING or AWAITING_REPLY holds what its capture holds, whatever else it does. -/
theorem Edge.sameReply_capture {p : PortIn} {s t : State} (h : Edge p s t) (hrst : p.rst = false)
    (hq : s.seqState = .sending ∨ s.seqState = .awaitingReply) : SameReply (s.capture p) t := by
  cases h with
  | reset h => cases hrst.symm.trans h
  | still _ hready | accepted _ _ hready => exact absurd hq (not_exchanging_of_ready hready)
  | opening _ hq' => simp [hq'] at hq
  | inFlight _ _ _ ht =>
    have hsame := ht.sameReply
    rw [State.pulseDefaults_capture] at hsame
    exact { hsame with }

/-- Settles O20: what an edge's capture holds in the two states that capture, and a dispatch elsewhere. -/
theorem replyBufferWriters : Obligations.ReplyBufferWriters := by
  intro s t p hrst ht
  have hedge := step_seeing_cases ht
  refine ⟨fun hq => ?_, fun hq => ?_⟩
  · obtain ⟨hcnt, hbuf⟩ := hedge.sameReply_capture hrst hq
    refine ⟨fun hstores => ?_, fun hno => ?_⟩
    · rw [State.capture_of_stores hstores] at hcnt hbuf
      have hbyte (i : Nat) : getByte t.rxbuf i = if i = s.rxcnt.toNat then p.rxData else getByte s.rxbuf i := by
        rw [hbuf]
        exact getByte_setByte _ _ _ _ hstores.2.2
      exact ⟨hcnt, (hbyte _).trans (if_pos rfl), fun i hi => (hbyte i).trans (if_neg hi)⟩
    · rw [State.capture_of_not_stores hno] at hcnt hbuf
      exact ⟨hcnt, hbuf⟩
  · rcases hedge.replyBuffer hrst hq with ⟨hstart, hk, hclear⟩ | ⟨hno, hsame⟩
    · exact ⟨fun _ => hclear, fun hno => absurd ⟨hstart, hk⟩ hno⟩
    · exact ⟨fun h => absurd h hno, fun _ => ⟨hsame.rxcnt, hsame.rxbuf⟩⟩

end Sys2Proof.Machine

/-! ## Proofs: which inputs an edge reads (43_sequencer.md R172, R173, R185, R186) -/

namespace Sys2Proof.Machine

/-! ### Two samples that an edge reads alike -/

/-- `p` and `p'` do the same at the coming edge of `s`: an edge with `rst` low reads its sample through the rule of its phase
only (R172). -/
structure State.ReadsAlike (s : State) (p p' : PortIn) : Prop where
  reset : p'.rst = p.rst
  inReady : p.rst = false → ready s.seqState = true → readyStep p' s.pulseDefaults = readyStep p s.pulseDefaults
  inOpening : p.rst = false → s.seqState = .opening → s.pulseDefaults.openingStep p' = s.pulseDefaults.openingStep p
  inSending : p.rst = false → s.seqState = .sending → s.pulseDefaults.sendingStep p' = s.pulseDefaults.sendingStep p
  inAwaiting : p.rst = false → s.seqState = .awaitingReply → s.pulseDefaults.awaitStep p' = s.pulseDefaults.awaitStep p

theorem State.ReadsAlike.clockEdge_eq {s : State} {p p' : PortIn} (h : s.ReadsAlike p p') :
    clockEdge p s = clockEdge p' s := by
  unfold clockEdge
  rw [h.reset]
  split
  · rfl
  next hrst =>
  have hrst : p.rst = false := by simpa using hrst
  split
  · rfl
  cases hq : s.seqState with
  | disconnected | connected | idle | unresponsive => exact (h.inReady hrst (by rw [hq]; rfl)).symm
  | opening => exact congrArg _ (h.inOpening hrst hq).symm
  | sending => exact congrArg _ (h.inSending hrst hq).symm
  | awaitingReply => exact congrArg _ (h.inAwaiting hrst hq).symm
  | unused7 => rfl

theorem State.ReadsAlike.step_eq {s : State} {p p' : PortIn} (h : s.ReadsAlike p p') :
    step (s.seeing p) = step (s.seeing p') := by
  rw [step_seeing, step_seeing, h.clockEdge_eq]

/-! ### The command port -/

/-- Settles O18: only a ready state reads the command port. -/
theorem busyCommandPortIgnored : Obligations.BusyCommandPortIgnored := by
  intro s p v w hbusy
  refine State.ReadsAlike.step_eq ⟨rfl, fun _ hready => ?_, fun _ _ => rfl, fun _ _ => rfl, fun _ _ => rfl⟩
  cases (busy_of_ready hready).symm.trans hbusy

/-! ### The receive port (R185) -/

/-- With no query in flight, or with five bytes held, no byte is stored (R177). -/
theorem State.capture_of_none_or_full {s : State} (h : s.kind = .none ∨ 5 ≤ s.rxcnt.toNat) (p : PortIn) :
    s.capture p = s :=
  State.capture_of_not_stores fun ⟨hk, _, hn⟩ => h.elim hk (Nat.not_le_of_lt hn)

/-- SENDING reads the received byte through the capture only. -/
theorem State.sendingStep_rxPort {s : State} (h : s.kind = .none ∨ 5 ≤ s.rxcnt.toNat) (p : PortIn) (v : Bool) (d : Byte) :
    s.sendingStep { p with rxValid := v, rxData := d } = s.sendingStep p := by
  unfold State.sendingStep
  rw [State.capture_of_none_or_full h, State.capture_of_none_or_full h]

/-- AWAITING_REPLY reads no other port at all. -/
theorem State.awaitStep_of_none_or_full {s : State} (h : s.kind = .none ∨ 5 ≤ s.rxcnt.toNat) (p p' : PortIn) :
    s.awaitStep p' = s.awaitStep p := by
  unfold State.awaitStep
  rw [State.capture_of_none_or_full h, State.capture_of_none_or_full h]

/-- Settles O21: the capture alone reads the receive port, and of the five cases the last two alone reach a capture. -/
theorem uncapturedByteLeavesNoTrace : Obligations.UncapturedByteLeavesNoTrace := by
  intro s p v d hcase
  have hcapture (hrst : p.rst = false) (hq : s.seqState = .sending ∨ s.seqState = .awaitingReply) :
      s.pulseDefaults.kind = .none ∨ 5 ≤ s.pulseDefaults.rxcnt.toNat := by
    rcases hcase with h | h | h | h
    · cases hrst.symm.trans h
    · exact absurd hq (not_exchanging_of_ready h)
    · simp [h] at hq
    · exact h
  exact State.ReadsAlike.step_eq
    { reset := rfl
      inReady := fun _ _ => rfl
      inOpening := fun _ _ => rfl
      inSending := fun hrst hq => State.sendingStep_rxPort (hcapture hrst (.inl hq)) p v d
      inAwaiting := fun hrst hq => State.awaitStep_of_none_or_full (hcapture hrst (.inr hq)) p _ }

/-! ### The transport's answers and the status read port (R186, R56) -/

/-- OPENING without an answer stays as it is. -/
theorem State.openingStep_of_unanswered {s : State} {p : PortIn} (h : p.openDone = false) : s.openingStep p = s := by
  rw [State.openingStep, h]
  rfl

/-- SENDING without an answer captures and nothing else. -/
theorem State.sendingStep_of_unanswered {s : State} {p : PortIn} (h : p.txDone = false) :
    s.sendingStep p = s.capture p := by
  rw [State.sendingStep, h]
  rfl

/-- Settles O22: each input is read in one phase, and the two values there only under their strobe. -/
theorem unreadInputsIgnored : Obligations.UnreadInputsIgnored := by
  intro s p b ok c a
  refine ⟨fun hq => ?_, fun hno => ?_, fun hq => ?_, fun hno => ?_, ?_⟩
  · exact State.ReadsAlike.step_eq ⟨rfl, fun _ _ => rfl, fun _ h => absurd h hq, fun _ _ => rfl, fun _ _ => rfl⟩
  · refine State.ReadsAlike.step_eq ⟨rfl, fun _ _ => rfl, fun _ _ => ?_, fun _ _ => rfl, fun _ _ => rfl⟩
    rw [State.openingStep_of_unanswered hno]
    exact State.openingStep_of_unanswered hno
  · exact State.ReadsAlike.step_eq ⟨rfl, fun _ _ => rfl, fun _ _ => rfl, fun _ h => absurd h hq, fun _ _ => rfl⟩
  · refine State.ReadsAlike.step_eq ⟨rfl, fun _ _ => rfl, fun _ _ => rfl, fun _ _ => ?_, fun _ _ => rfl⟩
    rw [State.sendingStep_of_unanswered hno]
    exact State.sendingStep_of_unanswered hno
  · exact State.ReadsAlike.step_eq ⟨rfl, fun _ _ => rfl, fun _ _ => rfl, fun _ _ => rfl, fun _ _ => rfl⟩

end Sys2Proof.Machine

/-! ## Proofs: what ends an exchange, and what it leaves (43_sequencer.md R178 to R184) -/

namespace Sys2Proof.Machine

/-! ### OPENING and SENDING without an answer, and the answer to an open (R178, R184) -/

theorem step_of_unanswered_open {s : State} {p : PortIn} (h : s.Clocked p) (hq : s.seqState = .opening)
    (hno : p.openDone = false) : step (s.seeing p) = .next s.pulseDefaults := by
  rw [step_of_opening h hq, State.openingStep_of_unanswered hno]

theorem step_of_unanswered_write {s : State} {p : PortIn} (h : s.Clocked p) (hq : s.seqState = .sending)
    (hno : p.txDone = false) : step (s.seeing p) = .next (s.pulseDefaults.capture p) := by
  rw [step_of_sending h hq, State.sendingStep_of_unanswered hno]

/-- Settles O19: the three branches of `OpeningStep()`. -/
theorem openAnswerStartsOrEndsConnect : Obligations.OpenAnswerStartsOrEndsConnect := by
  intro s p hclocked hq
  refine ⟨fun hdone hok => ?_, fun hdone hfail => ?_, step_of_unanswered_open hclocked hq⟩
  · rw [step_of_opening hclocked hq, State.openingStep, if_pos hdone, if_pos hok]
    rfl
  · rw [step_of_opening hclocked hq, State.openingStep, if_pos hdone, hfail]
    rfl

/-! ### `Complete`, element by element (R183) -/

/-- A pure command keeps `first_q`. -/
theorem State.complete_of_pure {s : State} {c : ResultCode} (hk : s.kind = .none) (hc : c ≠ .noReply) :
    s.complete c = { s with seqState := restingState s.unresp, result := resultBits c, doneR := true } := by
  rw [State.complete_eq hc, if_pos hk, ← hk]

/-- A query has had its first probe. -/
theorem State.complete_of_query {s : State} {c : ResultCode} (hk : s.kind ≠ .none) (hc : c ≠ .noReply) :
    s.complete c =
      { s with firstQ := false, kind := .none, seqState := restingState s.unresp, result := resultBits c,
               doneR := true } := by
  rw [State.complete_eq hc, if_neg hk]

/-! ### The edges of SENDING and AWAITING_REPLY, by what they find (R178 to R180) -/

section
variable {s : State} {p : PortIn}

/-- The capture of an edge, on the state with its pulse registers lowered. -/
theorem State.pulseDefaults_capture_eq (s : State) (p : PortIn) :
    s.pulseDefaults.capture p = s.pulseDefaults.holdReply (s.capture p).rxbuf (s.capture p).rxcnt := by
  rw [State.pulseDefaults_capture, s.capture_eq p]
  rfl

theorem step_of_written (h : s.Clocked p) (hq : s.seqState = .sending) (hd : p.txDone = true) :
    step (s.seeing p) = .next ((s.pulseDefaults.capture p).writeAnswer p.txCount) := by
  rw [step_of_sending h hq, State.sendingStep, if_pos hd]

theorem State.writeAnswer_of_pure (hk : s.kind = .none) : s.writeAnswer 5 = s.complete .ok := by
  rw [State.writeAnswer, if_neg (by decide), if_pos hk]

theorem State.writeAnswer_of_whole (hk : s.kind ≠ .none) (hn : s.rxcnt = 5) : s.writeAnswer 5 = s.decodeCommit := by
  rw [State.writeAnswer, pktLen, if_neg (by decide), if_neg hk, if_pos (count_eq_five.2 hn)]

theorem State.writeAnswer_of_incomplete (hk : s.kind ≠ .none) (hn : s.rxcnt ≠ 5) :
    s.writeAnswer 5 = (s.setTimer s.cfg.timeoutCycles).enter .awaitingReply := by
  rw [State.writeAnswer, pktLen, if_neg (by decide), if_neg hk, if_neg (mt count_eq_five.1 hn)]

theorem State.awaitStep_eq (s : State) (p : PortIn) :
    s.awaitStep p = if (s.capture p).rxcnt = 5 then (s.capture p).decodeCommit else (s.capture p).timerStep :=
  if_congr count_eq_five rfl rfl

/-- A whole reply is decoded at the edge that completes the exchange, in either of its two phases. -/
theorem step_of_replyComplete (h : s.Clocked p) (hk : s.kind ≠ .none) (hreply : s.ReplyComplete p) :
    step (s.seeing p) = .next (s.pulseDefaults.holdReply (s.capture p).rxbuf 5).decodeCommit := by
  have hu : s.pulseDefaults.capture p = s.pulseDefaults.holdReply (s.capture p).rxbuf 5 := by
    rw [State.pulseDefaults_capture_eq, hreply.whole]
  rcases hreply.phase with hq | ⟨hq, hd, hc⟩
  · rw [step_of_awaiting h hq, State.awaitStep_eq, hu]
    rfl
  · rw [step_of_written h hq hd, hc, hu]
    exact congrArg _ (State.writeAnswer_of_whole hk rfl)

end

/-- Settles O23: nothing is captured for a pure command. -/
theorem pureCommandEndsAtWriteAnswer : Obligations.PureCommandEndsAtWriteAnswer := by
  intro s p hclocked hq hk hd hc
  have hk' : s.pulseDefaults.kind = .none := hk
  rw [step_of_written hclocked hq hd, hc, State.capture_of_none_or_full (.inl hk'), State.writeAnswer_of_pure hk']
  exact congrArg _ (State.complete_of_pure hk' nofun)

/-- Settles O25: the write answer of a query whose reply is incomplete. -/
theorem queryStartsReplyTimer : Obligations.QueryStartsReplyTimer := by
  intro s p hclocked hq hk hd hc hn
  rw [step_of_written hclocked hq hd, hc, State.pulseDefaults_capture_eq]
  exact congrArg _ (State.writeAnswer_of_incomplete hk hn)

/-- Settles O29: the timer step above 1, after the capture. -/
theorem replyTimerCountsDown : Obligations.ReplyTimerCountsDown := by
  intro s p hclocked hq hn htmr
  rw [step_of_awaiting hclocked hq, State.awaitStep_eq, State.pulseDefaults_capture_eq, State.holdReply_rxcnt,
    if_neg hn]
  exact congrArg _ (if_neg (show ¬s.tmr.toNat ≤ 1 by omega))

/-! ### The three decoders (R181) -/

section
variable {s : State}

/-- A whole frequency/mode reply: all five bytes. -/
theorem State.decodeCommit_fm (hk : s.kind = .fm) :
    s.decodeCommit =
      { s with fmValid := true, fmRaw := s.rxbuf, firstQ := false, kind := .none,
               seqState := restingState s.unresp, result := resultBits .ok, doneR := true } := by
  rw [State.decodeCommit, hk]
  exact State.complete_of_query (s := s.commitFm s.rxbuf) (hk ▸ nofun) nofun

/-- A whole RX status reply: its first byte. -/
theorem State.decodeCommit_rx (hk : s.kind = .rx) :
    s.decodeCommit =
      { s with rxValid := true, rxRaw := s.rxbuf.b0, firstQ := false, kind := .none,
               seqState := restingState s.unresp, result := resultBits .ok, doneR := true } := by
  rw [State.decodeCommit, hk]
  exact State.complete_of_query (s := s.commitRx s.rxbuf.b0) (hk ▸ nofun) nofun

/-- A whole TX status reply other than the sentinel: its first byte. -/
theorem State.decodeCommit_tx (hk : s.kind = .tx) (hb : s.rxbuf.b0 ≠ 0xFF) :
    s.decodeCommit =
      { s with txValid := true, txRaw := s.rxbuf.b0, firstQ := false, kind := .none,
               seqState := restingState s.unresp, result := resultBits .ok, doneR := true } := by
  rw [State.decodeCommit, hk]
  exact (if_neg (by simpa [txSentinel] using hb)).trans
    (State.complete_of_query (s := s.commitTx s.rxbuf.b0) (hk ▸ nofun) nofun)

/-- The TX sentinel: nothing is committed. -/
theorem State.decodeCommit_tx_sentinel (hk : s.kind = .tx) (hb : s.rxbuf.b0 = 0xFF) :
    s.decodeCommit =
      { s with firstQ := false, kind := .none, seqState := restingState s.unresp,
               result := resultBits .notAvailable, doneR := true } := by
  rw [State.decodeCommit, hk]
  exact (if_pos (by simpa [txSentinel] using hb)).trans (State.complete_of_query (hk ▸ nofun) nofun)

end

/-- Settles O26: the commit of the frequency/mode part, on the buffer with this edge's byte. -/
theorem freqModeReplyCommits : Obligations.FreqModeReplyCommits := by
  intro s p hclocked hk hreply
  rw [step_of_replyComplete hclocked (hk ▸ nofun) hreply]
  exact congrArg _ (State.decodeCommit_fm hk)

/-- Settles O27: the commit of the RX part, with no value set apart. -/
theorem rxStatusReplyCommits : Obligations.RxStatusReplyCommits := by
  intro s p hclocked hk hreply
  rw [step_of_replyComplete hclocked (hk ▸ nofun) hreply]
  exact congrArg _ (State.decodeCommit_rx hk)

/-- Settles O28: the two branches of the sentinel's test. -/
theorem txStatusReplyCommitsUnlessSentinel : Obligations.TxStatusReplyCommitsUnlessSentinel := by
  intro s p hclocked hk hreply
  rw [step_of_replyComplete hclocked (hk ▸ nofun) hreply]
  exact ⟨fun hb => congrArg _ (State.decodeCommit_tx hk hb), fun hb => congrArg _ (State.decodeCommit_tx_sentinel hk hb)⟩

end Sys2Proof.Machine

/-! ## Proofs: runs that wait (43_sequencer.md R180, R189, R190; 70_reset_and_hazards.md R272, R273) -/

namespace Sys2Proof.Machine

/-! ### Runs that keep a predicate -/

/-- What every edge of `n + 1` carries holds of the coming edge and of the `n` after it, quiet ports included. -/
theorem sample_of_take {P : PortIn → Prop} (hquiet : P .quiet) {s : State} {n : Nat}
    (h : ∀ p ∈ s.inputs.take (n + 1), P p) : P s.sample ∧ ∀ p ∈ s.inputs.tail.take n, P p := by
  unfold State.sample
  cases hl : s.inputs with
  | nil => exact ⟨hquiet, by simp⟩
  | cons p l =>
    rw [hl, List.take_succ_cons, List.forall_mem_cons] at h
    exact h

/-- A predicate indexed by the edges still to go, which every edge brings one nearer to its end. -/
theorem run_of_countdown {I : Nat → State → Prop} (hstep : ∀ m s, I (m + 1) s → ∃ t, step s = .next t ∧ I m t)
    (k : Nat) : ∀ {m : Nat} {s : State}, I (m + k) s → ∃ t, Host.Core.run Sys2Proof.core k s = .next t ∧ I m t := by
  induction k with
  | zero => exact fun {_ s} h => ⟨s, rfl, h⟩
  | succ k ih =>
    intro m s h
    obtain ⟨u, hu, hI⟩ := hstep (m + k) s h
    obtain ⟨t, ht, hm⟩ := ih hI
    exact ⟨t, (run_succ_of_next hu).trans ht, hm⟩

/-- A run one edge longer, by its last edge. -/
theorem run_succ_last (n : Nat) : ∀ {s t : State}, Host.Core.run Sys2Proof.core n s = .next t →
    Host.Core.run Sys2Proof.core (n + 1) s = step t := by
  induction n with
  | zero =>
    intro s t h
    obtain rfl : s = t := Host.Outcome.next.inj h
    rw [run_succ]
    cases step s <;> rfl
  | succ n ih =>
    intro s t h
    rw [run_succ] at h ⊢
    cases hs : step s with
    | next u => rw [hs] at h; exact ih h
    | fault | refused => rw [hs] at h; cases h

/-! ### A query without further bytes -/

/-- A query of AWAITING_REPLY with `m + 1` on its timer, the reply and the record of `s`, and no byte on the ports before the
timer runs out. -/
structure State.AwaitsInSilence (s : State) (m : Nat) (u : State) : Prop where
  params : configWf u.cfg = true
  phase : u.seqState = .awaitingReply
  notDone : u.doneR = false
  incomplete : u.rxcnt.toNat < 5
  timer : u.tmr.toNat = m + 1
  silence : ∀ p ∈ u.inputs.take (m + 1), p.rst = false ∧ p.rxValid = false
  reply : SameReply s u
  record : SameRecord s u

namespace State.AwaitsInSilence
variable {s u : State} {m : Nat}

theorem silence_split (h : s.AwaitsInSilence m u) :
    (u.sample.rst = false ∧ u.sample.rxValid = false) ∧
      ∀ p ∈ u.inputs.tail.take m, p.rst = false ∧ p.rxValid = false :=
  sample_of_take (P := fun p => p.rst = false ∧ p.rxValid = false) ⟨rfl, rfl⟩ h.silence

/-- An edge without a byte is a timer step. -/
theorem step_eq (h : s.AwaitsInSilence m u) : step u = .next u.advance.pulseDefaults.timerStep := by
  obtain ⟨⟨hrst, hno⟩, -⟩ := h.silence_split
  have hclocked : u.advance.Clocked u.sample := ⟨h.params, hrst, fun hd => by simp [h.notDone] at hd⟩
  have hcapture : u.advance.pulseDefaults.capture u.sample = u.advance.pulseDefaults :=
    State.capture_of_not_stores (by simp [hno])
  have hn : u.advance.pulseDefaults.rxcnt ≠ 5 := fun e => h.incomplete.ne (count_eq_five.2 e)
  rw [step_eq_step_seeing, step_of_awaiting hclocked h.phase, State.awaitStep_eq, hcapture, if_neg hn]

/-- Above 1 the timer counts down and the query is still waiting. -/
theorem step_waits (h : s.AwaitsInSilence (m + 1) u) : ∃ t, step u = .next t ∧ s.AwaitsInSilence m t := by
  have htmr := h.timer
  rcases u.advance.pulseDefaults.timerStep_cases with ⟨hle, -⟩ | ⟨hle, -⟩ | ⟨-, e⟩
  · exact absurd hle (by simp [htmr])
  · exact absurd hle (by simp [htmr])
  · refine ⟨_, h.step_eq, ?_⟩
    rw [e]
    exact { params := h.params, phase := h.phase, notDone := rfl, incomplete := h.incomplete
            timer := show (u.tmr - 1).toNat = m + 1 by bv_omega
            silence := h.silence_split.2
            reply := { h.reply with }, record := { h.record with } }

/-- At 1 the timer runs out: the query ends with NO_REPLY or SHORT_READ, and keeps what it had. -/
theorem step_ends (h : s.AwaitsInSilence 0 u) :
    ∃ t, step u = .next t ∧ ready t.seqState = true ∧ t.doneR = true ∧ t.result = (if s.rxcnt = 0 then 3 else 4) ∧
      SameReply s t ∧ SameRecord s t := by
  have htmr : u.advance.pulseDefaults.tmr.toNat ≤ 1 := h.timer.le
  refine ⟨_, h.step_eq, ?_⟩
  rw [State.timerStep, if_pos htmr, ← h.reply.rxcnt]
  refine ⟨ready_restingState _, rfl, ?_, { h.reply with }, { h.record with }⟩
  rw [State.complete_result]
  exact apply_ite resultBits _ _ _

end State.AwaitsInSilence

/-- Settles O58, by induction on the timer: it counts down at each of the first n edges and runs out at the next. -/
theorem silentQueryEndsAtTimeout : Obligations.SilentQueryEndsAtTimeout := by
  intro n s hc hq _ hd hn htmr hsilence
  have hwaits : s.AwaitsInSilence n s := ⟨hc, hq, hd, hn, htmr, hsilence, ⟨rfl, rfl⟩, .refl s⟩
  have hrun (k m : Nat) (hk : m + k = n) :
      ∃ t, Host.Core.run Sys2Proof.core k s = .next t ∧ s.AwaitsInSilence m t :=
    run_of_countdown (fun _ _ => State.AwaitsInSilence.step_waits) k (hk ▸ hwaits)
  refine ⟨fun k hk => ?_, ?_⟩
  · obtain ⟨t, ht, hw⟩ := hrun k (n - k) (by omega)
    exact ⟨t, ht, hw.phase, hw.notDone, by rw [hw.timer]; omega⟩
  · obtain ⟨u, hu, hw⟩ := hrun n 0 (by omega)
    obtain ⟨t, ht, hready, hdone, hres, hreply, hrecord⟩ := hw.step_ends
    exact ⟨t, (run_succ_last n hu).trans ht, hready, hdone, hres, hreply.rxbuf, hreply.rxcnt, hrecord⟩

/-! ### A request that is never answered -/

/-- `u` still waits where `s` does, on the same request, and the ports of the next `m` edges meet `P`. -/
structure State.StillWaits (P : PortIn → Prop) (s : State) (m : Nat) (u : State) : Prop where
  params : configWf u.cfg = true
  phase : u.seqState = s.seqState
  notDone : u.doneR = false
  packet : u.txpkt = s.txpkt
  kind : u.kind = s.kind
  ports : ∀ p ∈ u.inputs.take m, P p

/-- Where an edge that meets `P` only captures, the request is waited for at every such edge. -/
theorem run_stillWaits {P : PortIn → Prop} (hquiet : P .quiet) (hrst : ∀ p, P p → p.rst = false) {s : State} (n : Nat)
    (hstep : ∀ (u : State) (p : PortIn), u.seqState = s.seqState → u.Clocked p → P p →
      step (u.seeing p) = .next u.pulseDefaults ∨ step (u.seeing p) = .next (u.pulseDefaults.capture p))
    (h : s.StillWaits P n s) : ∃ t, Host.Core.run Sys2Proof.core n s = .next t ∧ s.StillWaits P 0 t := by
  refine run_of_countdown (I := s.StillWaits P) (fun m u hu => ?_) n (by rwa [Nat.zero_add])
  obtain ⟨hp, hrest⟩ := sample_of_take hquiet hu.ports
  have hclocked : u.advance.Clocked u.sample := ⟨hu.params, hrst _ hp, fun hd => by simp [hu.notDone] at hd⟩
  have hnext : s.StillWaits P m u.advance.pulseDefaults :=
    ⟨hu.params, hu.phase, rfl, hu.packet, hu.kind, hrest⟩
  rw [step_eq_step_seeing]
  rcases hstep u.advance u.sample hu.phase hclocked hp with e | e
  · exact ⟨_, e, hnext⟩
  · refine ⟨_, e, ?_⟩
    rw [State.capture_eq]
    exact { hnext with }

/-- Settles O59: OPENING without an answer stays as it is, SENDING without one only captures. -/
theorem unansweredRequestWaits : Obligations.UnansweredRequestWaits := by
  intro n s hc hd
  refine ⟨fun hq hports => ?_, fun hq hports => ?_⟩
  · obtain ⟨t, ht, hw⟩ := run_stillWaits (P := fun p => p.rst = false ∧ p.openDone = false) ⟨rfl, rfl⟩
      (fun _ hp => hp.1) n
      (fun _ _ hu hclocked hp => .inl (step_of_unanswered_open hclocked (hu.trans hq) hp.2))
      ⟨hc, rfl, hd, rfl, rfl, hports⟩
    have hphase : t.seqState = .opening := hw.phase.trans hq
    exact ⟨⟨t, ht, hphase, hw.notDone⟩, runEnded_of_busy ht (by rw [hphase]; rfl)⟩
  · obtain ⟨t, ht, hw⟩ := run_stillWaits (P := fun p => p.rst = false ∧ p.txDone = false) ⟨rfl, rfl⟩
      (fun _ hp => hp.1) n
      (fun _ _ hu hclocked hp => .inr (step_of_unanswered_write hclocked (hu.trans hq) hp.2))
      ⟨hc, rfl, hd, rfl, rfl, hports⟩
    have hphase : t.seqState = .sending := hw.phase.trans hq
    exact ⟨⟨t, ht, hphase, hw.notDone, hw.packet, hw.kind⟩, runEnded_of_busy ht (by rw [hphase]; rfl)⟩

end Sys2Proof.Machine

/-! ## Proofs: the host commands at their acceptance edge (44_commands.md R200 to R211) -/

namespace Sys2Proof.Machine

/-! ### The session commands (R200, R201) -/

theorem execConnect_of_disconnected {speed : Word32} {s : State} (h : s.seqState = .disconnected) :
    execConnect speed s = .next ((s.setLastHop 0x01).requestOpen speed) := by
  rw [execConnect, accept_of_ready ((ready_iff _).2 (.inl h)), State.setLastHop_seqState, if_pos h]

theorem execDisconnect_of_open (arg : Word32) {s : State} (h : sessionOpen s.seqState = true) :
    execDisconnect arg s = .next ((s.setLastHop 0x02).closeSession.finish .ok) := by
  rw [execDisconnect, accept_of_ready (ready_of_sessionOpen h), needSession_of_open (s := s.setLastHop 0x02) h]

/-- Settles O1: what `requestOpen` writes, after `last_hop`. -/
theorem connectOpensTransport : Obligations.ConnectOpensTransport :=
  fun _ _ hd => execConnect_of_disconnected hd

/-- Settles O3: what `closeSession` and the `Finish` after it write. -/
theorem disconnectClosesSession : Obligations.DisconnectClosesSession :=
  fun arg _ hs => execDisconnect_of_open arg hs

/-! ### The commands that send a packet (R202 to R210) -/

section
variable {hop : Byte} {pkt : Packet} {k : Kind} {s : State}

/-- A command without a reply leaves the reply buffer alone (R176). -/
theorem acceptPacket_command_of_open (h : sessionOpen s.seqState = true) :
    acceptPacket hop pkt .none s =
      .next { s with lastHop := hop, txpkt := pkt, txpktValid := true, txStart := true, kind := .none,
                     seqState := .sending } :=
  acceptPacket_of_open h

/-- A query also empties the reply buffer (R176). -/
theorem acceptPacket_query_of_open (h : sessionOpen s.seqState = true) (hk : k ≠ .none) :
    acceptPacket hop pkt k s =
      .next { s with lastHop := hop, txpkt := pkt, txpktValid := true, txStart := true, kind := k,
                     seqState := .sending, rxcnt := 0, rxbuf := Packet.zero } := by
  rw [acceptPacket_of_open h, State.dispatch, if_neg hk, if_neg hk]
  rfl

/-- SET_MODE with a known name is a command that sends the packet of that mode (R207). -/
theorem execSetMode_nameWord (m : Mode) (h : sessionOpen s.seqState = true) :
    execSetMode (nameWord m) s = acceptPacket 0x08 (packetSetMode s.cfg.modeCode m) .none s := by
  rw [execSetMode, accept_of_ready (ready_of_sessionOpen h), modeByName_nameWord, acceptPacket_of_open h]
  exact congrArg _ (needSession_of_open (s := s.setLastHop 0x08) h)

end

/-- Settles O4: each row sends its packet of R111 to R114. -/
theorem lockAndPttDispatchPackets : Obligations.LockAndPttDispatchPackets := by
  intro arg s hs
  have hcommand (hop : Byte) (pkt : Packet) := acceptPacket_command_of_open (hop := hop) (pkt := pkt) hs
  exact ⟨hcommand 0x03 packetLockOn, hcommand 0x04 packetLockOff, hcommand 0x05 packetPttOn,
    hcommand 0x06 packetPttOff⟩

/-- Settles O6: a mode is found by its own name. -/
theorem setModeDispatchesModeCode : Obligations.SetModeDispatchesModeCode := by
  intro m s hs
  exact (execSetMode_nameWord m hs).trans (acceptPacket_command_of_open hs)

/-- Settles O7: each row sends its packet of R117 to R119. -/
theorem queriesDispatchAndArmCapture : Obligations.QueriesDispatchAndArmCapture := by
  intro arg s hs
  have hquery (hop : Byte) (pkt : Packet) {k : Kind} (hk : k ≠ .none) :=
    acceptPacket_query_of_open (hop := hop) (pkt := pkt) hs hk
  exact ⟨hquery 0x09 packetGetFreqMode nofun, hquery 0x0A packetGetRxStatus nofun,
    hquery 0x0B packetGetTxStatus nofun⟩

/-! ### The decimal digits of SET_FREQ (R132, R206) -/

/-- The four groups are the eight low digits: what R132 drops is above them. -/
theorem freqGroup_mod (n : Nat) {k : Nat} (hk : k < 4) : freqGroup (n % 10 ^ 8) k = freqGroup n k := by
  match k, hk with
  | 0, _ | 1, _ | 2, _ | 3, _ =>
    simp only [freqGroup_succ, freqGroup_zero]
    omega

theorem freqGroup_eq (n k : Nat) : freqGroup n k = n / 10 ^ (2 * k) % 100 := by
  rw [freqGroup, Nat.pow_mul]

/-- The two nibbles of group `k` are the digits `2 * k + 1` and `2 * k`. -/
theorem bcd_freqGroup_nibbles (n : Nat) {k : Nat} (hk : k < 4) :
    highNibble (bcd (freqGroup (n % 10 ^ 8) k)) = n / 10 ^ (2 * k + 1) % 10 ∧
      lowNibble (bcd (freqGroup (n % 10 ^ 8) k)) = n / 10 ^ (2 * k) % 10 := by
  have hnext : n / 10 ^ (2 * k + 1) = n / 10 ^ (2 * k) / 10 := by rw [Nat.pow_succ, Nat.div_div_eq_div_mul]
  rw [highNibble_bcd _ (freqGroup_lt _ _), lowNibble_bcd _ (freqGroup_lt _ _), freqGroup_mod n hk, freqGroup_eq, hnext]
  omega

/-- Settles O5: the four groups, most significant first. -/
theorem setFreqDispatchesDigits : Obligations.SetFreqDispatchesDigits := by
  intro n s hs
  obtain ⟨h7, h6⟩ := bcd_freqGroup_nibbles n.toNat (k := 3) (by decide)
  obtain ⟨h5, h4⟩ := bcd_freqGroup_nibbles n.toNat (k := 2) (by decide)
  obtain ⟨h3, h2⟩ := bcd_freqGroup_nibbles n.toNat (k := 1) (by decide)
  obtain ⟨h1, h0⟩ := bcd_freqGroup_nibbles n.toNat (k := 0) (by decide)
  rw [Nat.mul_zero, Nat.pow_zero, Nat.div_one] at h0
  exact ⟨encFreq n, acceptPacket_command_of_open (pkt := packetSetFreq n) hs, h7, h6, h5, h4, h3, h2, h1, h0⟩

/-! ### The reserved rows (R81, R211) -/

/-- Fixed bits followed by free ones: the free bits fill the places that are zero in the row's first word. -/
theorem append_eq_or {h l w : Nat} (hw : h + l = w) (c : BitVec h) (low : BitVec l) :
    (c ++ low).cast hw = (c ++ 0#l).cast hw ||| low.setWidth w := by
  subst hw
  ext i hi
  by_cases hlow : i < l
  · simp [BitVec.getElem_append, hlow]
  · simp [BitVec.getElem_append, hlow, BitVec.getLsbD_of_ge low i (Nat.le_of_not_lt hlow)]

theorem acceptReserved_append {s : State} (hr : ready s.seqState = true) {h l : Nat} (hw : h + l = 8) (c : BitVec h)
    (low : BitVec l) :
    acceptReserved ((c ++ low).cast hw) s =
      .next { s with lastHop := (c ++ 0#l).cast hw ||| low.setWidth 8, result := 9, doneR := true } := by
  rw [acceptReserved_of_ready hr, append_eq_or]
  rfl

/-- Settles O11: a row with free bits writes its first HOP with those bits filled in. -/
theorem reservedRowsComplete : Obligations.ReservedRowsComplete := by
  intro arg s hr
  have hrow {h l : Nat} (hw : h + l = 8) (c : BitVec h) := acceptReserved_append hr hw (l := l) c
  exact ⟨acceptReserved_of_ready hr, hrow (l := 2) rfl 0b000011#6, hrow (l := 4) rfl 0b0001#4,
    hrow (l := 5) rfl 0b001#3, hrow (l := 6) rfl 0b01#2, hrow (l := 7) rfl 0b1#1⟩

end Sys2Proof.Machine

/-! ## Proofs: a whole GET_FREQ_MODE exchange (44_commands.md R208; 70_reset_and_hazards.md R272) -/

namespace Sys2Proof.Machine

/-! ### The reply buffer as the list of the bytes received -/

/-- The reply buffer that holds `bytes` and is zero behind them (R33). -/
def replyOf (bytes : List Byte) : Packet :=
  ⟨bytes.getD 0 0, bytes.getD 1 0, bytes.getD 2 0, bytes.getD 3 0, bytes.getD 4 0⟩

/-- The next byte goes behind those held (R177). -/
theorem setByte_replyOf {held : List Byte} (b : Byte) (h : held.length < 5) :
    setByte (replyOf held) b held.length = replyOf (held ++ [b]) := by
  match held, h with
  | [], _ | [_], _ | [_, _], _ | [_, _, _], _ | [_, _, _, _], _ => rfl

/-! ### The words that show a reply (R36, R37) -/

theorem stsRead_freqN {t : State} (hv : t.fmValid = true) :
    ((stsRead t 1).extractLsb' 0 28).toNat = decFreqValue t.fmRaw.payload := by
  rw [stsRead_freq, (wordFreq_fields t hv).1, BitVec.toNat_ofNat, Nat.mod_eq_of_lt (decFreqValue_lt _)]

theorem stsRead_modeRaw {t : State} (hv : t.fmValid = true) : (stsRead t 2).extractLsb' 0 8 = t.fmRaw.b4 :=
  (wordMode_fields t hv).1

/-! ### The exchange, edge by edge -/

theorem State.eq_advance_seeing {s : State} {p : PortIn} {l : List PortIn} (h : s.inputs = p :: l) :
    s = s.advance.seeing p := by
  rw [State.advance, h]
  exact State.eq_seeing h

/-- The GET_FREQ_MODE query that `s` accepted is in phase `q` at `u`: it holds the bytes `held`, the ports of the coming
edges carry `coming`, and the reply window is long enough for the bytes that are missing. -/
structure State.FreqModeQuery (s : State) (q : SeqState) (held : List Byte) (coming : List PortIn) (u : State) :
    Prop where
  phase : u.seqState = q
  kind : u.kind = .fm
  notDone : u.doneR = false
  packet : u.txpkt = packetGetFreqMode
  unresp : u.unresp = s.unresp
  count : u.rxcnt.toNat = held.length
  buffer : u.rxbuf = replyOf held
  window : q = .awaitingReply → 5 ≤ u.tmr.toNat + held.length
  ports : u.inputs = coming
  cfg : u.cfg = s.cfg
  record : SameRecord s u

/-- GET_FREQ_MODE is accepted and its packet handed over. -/
theorem step_accepts_getFreqMode {s : State} {c : PortIn} {l : List PortIn} (hports : s.inputs = c :: l)
    (hclocked : s.Clocked c) (hopen : sessionOpen s.seqState = true) (hv : c.cmdValid = true)
    (hhop : hopOf c.cmdWord = 0x09) : ∃ u, step s = .next u ∧ s.FreqModeQuery .sending [] l u := by
  have hinstr : decodeHost c.cmdWord = .getFreqMode (argOf c.cmdWord) := by
    rw [decodeHost, hhop]
    rfl
  obtain ⟨haccept, -⟩ := queriesDispatchAndArmCapture (argOf c.cmdWord)
    { s.advance with doneR := false, openReq := false, closeReq := false, txStart := false } hopen
  have hstep := stepRunsAcceptedCommand s.advance c { hclocked with } (ready_of_sessionOpen hopen) hv
  rw [hinstr, haccept, ← State.eq_advance_seeing hports] at hstep
  exact ⟨_, hstep,
    { phase := rfl, kind := rfl, notDone := rfl, packet := rfl, unresp := rfl, count := rfl, buffer := rfl
      window := nofun, ports := congrArg List.tail hports, cfg := rfl, record := ⟨rfl, rfl, rfl, rfl, rfl, rfl⟩ }⟩

namespace State.FreqModeQuery
variable {s u : State} {q : SeqState} {held : List Byte} {p : PortIn} {l : List PortIn}

theorem clocked (h : s.FreqModeQuery q held (p :: l) u) (hc : configWf s.cfg = true) (hrst : p.rst = false) :
    u.advance.Clocked p :=
  ⟨h.cfg ▸ hc, hrst, fun hd => by simp [h.notDone] at hd⟩

/-- A byte that arrives is put behind those held. -/
theorem captures_byte (h : s.FreqModeQuery q held (p :: l) u) (hlt : held.length < 5) (hv : p.rxValid = true) :
    (u.advance.capture p).rxcnt.toNat = (held ++ [p.rxData]).length ∧
      (u.advance.capture p).rxbuf = replyOf (held ++ [p.rxData]) := by
  have hk : u.advance.kind ≠ .none := h.kind ▸ nofun
  have hcount : u.advance.rxcnt.toNat = held.length := h.count
  have hbuf : u.advance.rxbuf = replyOf held := h.buffer
  rw [State.capture_of_stores ⟨hk, hv, hcount ▸ hlt⟩]
  refine ⟨?_, ?_⟩
  · rw [State.holdReply_rxcnt, List.length_append, List.length_singleton]
    bv_omega
  · rw [State.holdReply_rxbuf, hcount, hbuf, setByte_replyOf _ hlt]

/-- The write answer opens the reply window (R178). -/
theorem step_answered (h : s.FreqModeQuery .sending [] (p :: l) u) (hc : configWf s.cfg = true) (hrst : p.rst = false)
    (hwindow : 5 ≤ s.cfg.timeoutCycles.toNat) (hd : p.txDone = true) (hcount : p.txCount = 5)
    (hno : p.rxValid = false) : ∃ t, step u = .next t ∧ s.FreqModeQuery .awaitingReply [] l t := by
  have hcapture : u.advance.capture p = u.advance :=
    State.capture_of_not_stores (by simp [hno])
  have hempty : u.rxcnt ≠ 5 := fun e => by simpa [e] using h.count
  have hstep := queryStartsReplyTimer u.advance p (h.clocked hc hrst) h.phase (h.kind ▸ nofun) hd hcount
    (by rwa [hcapture])
  rw [hcapture, ← State.eq_advance_seeing h.ports] at hstep
  exact ⟨_, hstep,
    { phase := rfl, kind := h.kind, notDone := rfl, packet := h.packet, unresp := h.unresp, count := h.count
      buffer := h.buffer, window := fun _ => h.cfg ▸ hwindow, ports := congrArg List.tail h.ports
      cfg := h.cfg, record := { h.record with } }⟩

/-- Each of the first four bytes uses one cycle of the window (R180). -/
theorem step_collects (h : s.FreqModeQuery .awaitingReply held (p :: l) u) (hc : configWf s.cfg = true)
    (hrst : p.rst = false) (hv : p.rxValid = true) (hlt : held.length < 4) :
    ∃ t, step u = .next t ∧ s.FreqModeQuery .awaitingReply (held ++ [p.rxData]) l t := by
  obtain ⟨hcount, hbuf⟩ := h.captures_byte (by omega) hv
  have hlen : (held ++ [p.rxData]).length = held.length + 1 := List.length_append
  have hwindow := h.window rfl
  have htmr : 2 ≤ u.tmr.toNat := by omega
  have hincomplete : (u.advance.capture p).rxcnt ≠ 5 := fun e => by
    have := count_eq_five.2 e
    omega
  have hstep := replyTimerCountsDown u.advance p (h.clocked hc hrst) h.phase hincomplete htmr
  rw [← State.eq_advance_seeing h.ports] at hstep
  exact ⟨_, hstep,
    { phase := h.phase, kind := h.kind, notDone := rfl, packet := h.packet, unresp := h.unresp, count := hcount
      buffer := hbuf, window := fun _ => show 5 ≤ (u.tmr - 1).toNat + _ by bv_omega
      ports := congrArg List.tail h.ports, cfg := h.cfg, record := { h.record with } }⟩

/-- Ports that bring a byte each, up to four in all. -/
theorem run_collects (hc : configWf s.cfg = true) (arriving : List PortIn) :
    ∀ {held : List Byte} {u : State}, s.FreqModeQuery .awaitingReply held (arriving ++ l) u →
      held.length + arriving.length ≤ 4 → (∀ p ∈ arriving, p.rst = false ∧ p.rxValid = true) →
      ∃ t, Host.Core.run Sys2Proof.core arriving.length u = .next t ∧
        s.FreqModeQuery .awaitingReply (held ++ arriving.map PortIn.rxData) l t := by
  induction arriving with
  | nil =>
    intro held u h _ _
    exact ⟨u, rfl, by simpa using h⟩
  | cons p arriving ih =>
    intro held u h hlen hports
    rw [List.length_cons] at hlen
    obtain ⟨⟨hrst, hv⟩, hrest⟩ := List.forall_mem_cons.1 hports
    obtain ⟨v, hstep, hnext⟩ := h.step_collects hc hrst hv (by omega)
    obtain ⟨t, ht, hall⟩ := ih hnext (by rw [List.length_append, List.length_singleton]; omega) hrest
    exact ⟨t, (run_succ_of_next hstep).trans ht, by simpa using hall⟩

/-- The fifth byte ends the exchange, whatever is left of the window (R181). -/
theorem step_commits (h : s.FreqModeQuery .awaitingReply held (p :: l) u) (hc : configWf s.cfg = true)
    (hrst : p.rst = false) (hv : p.rxValid = true) (hfour : held.length = 4) :
    step u = .next { u.advance with
      doneR := true, openReq := false, closeReq := false, txStart := false, result := 0
      seqState := restingState u.unresp, kind := .none, firstQ := false
      rxbuf := replyOf (held ++ [p.rxData]), rxcnt := 5, fmValid := true, fmRaw := replyOf (held ++ [p.rxData]) } := by
  obtain ⟨hcount, hbuf⟩ := h.captures_byte (by omega) hv
  have hwhole : (u.advance.capture p).rxcnt = 5 :=
    count_eq_five.1 (by rw [hcount, List.length_append, List.length_singleton, hfour])
  have hstep := freqModeReplyCommits u.advance p (h.clocked hc hrst) h.kind ⟨.inl h.phase, hwhole⟩
  rwa [hbuf, ← State.eq_advance_seeing h.ports] at hstep

end State.FreqModeQuery

/-- Settles O60: the acceptance, the write answer, four bytes within the window and the byte that completes the reply. -/
theorem freqModeQueryDeliversReply : Obligations.FreqModeQueryDeliversReply := by
  intro s c w r0 r1 r2 r3 r4 rest hports hc hcode hopen hwindow hrst hcmd hhop hdone hcount hno hbytes
  simp only [List.forall_mem_cons] at hrst hbytes
  obtain ⟨rstC, rstW, rst0, rst1, rst2, rst3, rst4, -⟩ := hrst
  obtain ⟨byte0, byte1, byte2, byte3, byte4, -⟩ := hbytes
  obtain ⟨u, hu, hsending⟩ := step_accepts_getFreqMode hports ⟨hc, rstC, hcode⟩ hopen hcmd hhop
  obtain ⟨v, hv, hawaiting⟩ := hsending.step_answered hc rstW hwindow hdone hcount hno
  obtain ⟨x, hx, hfour⟩ := State.FreqModeQuery.run_collects (l := r4 :: rest) hc [r0, r1, r2, r3] hawaiting le_rfl
    (by simp [rst0, rst1, rst2, rst3, byte0, byte1, byte2, byte3])
  have hlast := hfour.step_commits hc rst4 byte4 rfl
  have hrun : Host.Core.run Sys2Proof.core 7 s = step x :=
    (run_succ_of_next hu).trans ((run_succ_of_next hv).trans (run_succ_last 4 hx))
  exact ⟨_, hrun.trans hlast, rfl, rfl, congrArg restingState hfour.unresp, rfl, hfour.packet,
    congrArg List.tail hfour.ports, rfl, rfl, stsRead_freqN rfl, stsRead_modeRaw rfl, hfour.record.rxValid,
    hfour.record.rxRaw, hfour.record.txValid, hfour.record.txRaw⟩

end Sys2Proof.Machine

/-! ## Proofs: the commands that end with an error (60_exceptions.md R233 to R240) -/

namespace Sys2Proof.Machine

/-! ### The reply timer's end (43_sequencer.md R180, R183) -/

/-- A query's first probe that gets no reply sets `unresp` (R183). -/
theorem completeUnresp_noReply_of_query {s : State} (hk : s.kind ≠ .none) :
    completeUnresp s .noReply = (s.unresp || s.firstQ) := by
  simp [completeUnresp, hk]

/-- A query that got no reply: `State.complete_of_query` for the one code that `unresp` depends on. -/
theorem State.complete_noReply_of_query {s : State} (hk : s.kind ≠ .none) :
    s.complete .noReply =
      { s with unresp := s.unresp || s.firstQ, firstQ := false, kind := .none,
               seqState := restingState (s.unresp || s.firstQ), result := resultBits .noReply, doneR := true } := by
  rw [State.complete, State.endExchange, completeUnresp_noReply_of_query hk, if_neg hk]
  rfl

/-- The timer runs out on a reply that this edge's byte did not complete. -/
theorem step_of_timeout {s : State} {p : PortIn} (h : s.Clocked p) (hq : s.seqState = .awaitingReply)
    (hn : (s.capture p).rxcnt ≠ 5) (htmr : s.tmr.toNat ≤ 1) :
    step (s.seeing p) =
      .next ((s.pulseDefaults.holdReply (s.capture p).rxbuf (s.capture p).rxcnt).complete
        (if (s.capture p).rxcnt = 0 then .noReply else .shortRead)) := by
  rw [step_of_awaiting h hq, State.awaitStep_eq, State.pulseDefaults_capture_eq, State.holdReply_rxcnt, if_neg hn]
  exact congrArg _ (if_pos htmr)

/-- Settles O30: no byte is no whole reply, and the query's first probe is what `unresp` turns on. -/
theorem timeoutWithoutBytesIsNoReply : Obligations.TimeoutWithoutBytesIsNoReply := by
  intro s p hclocked hq hk hzero htmr
  have hincomplete : (s.capture p).rxcnt ≠ 5 := hzero ▸ by decide
  rw [step_of_timeout hclocked hq hincomplete htmr, if_pos hzero]
  exact congrArg _ (State.complete_noReply_of_query hk)

/-- Settles O31: 1 to 4 bytes are neither none nor a whole reply. -/
theorem timeoutWithSomeBytesIsShortRead : Obligations.TimeoutWithSomeBytesIsShortRead := by
  intro s p hclocked hq hk hsome hfew htmr
  have hincomplete : (s.capture p).rxcnt ≠ 5 := by bv_omega
  have hnonzero : (s.capture p).rxcnt ≠ 0 := by bv_omega
  rw [step_of_timeout hclocked hq hincomplete htmr, if_neg hnonzero]
  exact congrArg _ (State.complete_of_query hk nofun)

/-! ### A short write (43_sequencer.md R178) -/

/-- A count other than 5 is looked at before the kind and before the reply. -/
theorem State.writeAnswer_of_short {s : State} {c : BitVec 3} (hc : c ≠ 5) :
    s.writeAnswer c = s.complete .shortWrite := by
  rw [State.writeAnswer, pktLen, if_pos (mt count_eq_five.1 hc)]

/-- Settles O24: the write answer after the capture of the same edge. -/
theorem shortWriteEndsCommand : Obligations.ShortWriteEndsCommand := by
  intro s p hclocked hq hd hc
  rw [step_of_written hclocked hq hd, State.pulseDefaults_capture_eq, State.writeAnswer_of_short hc]
  exact congrArg _ (State.complete_eq nofun)

/-! ### Commands rejected at their acceptance edge (43_sequencer.md R175) -/

section
variable {s : State}

theorem execConnect_of_open (speed : Word32) (h : sessionOpen s.seqState = true) :
    execConnect speed s = .next ((s.setLastHop 0x01).finish .alreadyConnected) := by
  rw [execConnect, accept_of_ready (ready_of_sessionOpen h), State.setLastHop_seqState,
    if_neg (ne_disconnected_of_sessionOpen h)]

theorem execDisconnect_of_disconnected (arg : Word32) (h : s.seqState = .disconnected) :
    execDisconnect arg s = .next ((s.setLastHop 0x02).finish .notConnected) := by
  rw [execDisconnect, accept_of_ready ((ready_iff _).2 (.inl h)),
    needSession_of_disconnected (s := s.setLastHop 0x02) h]

/-- A known name gets as far as the connection check (R244). -/
theorem execSetMode_nameWord_of_disconnected (m : Mode) (h : s.seqState = .disconnected) :
    execSetMode (nameWord m) s = .next ((s.setLastHop 0x08).finish .notConnected) := by
  rw [execSetMode, accept_of_ready ((ready_iff _).2 (.inl h)), modeByName_nameWord]
  exact congrArg _ (needSession_of_disconnected (s := s.setLastHop 0x08) h)

/-- An unknown name is rejected whether or not there is a session (R244). -/
theorem execSetMode_of_unknown {name : Word32} (h : ready s.seqState = true) (hname : ∀ m, name ≠ nameWord m) :
    execSetMode name s = .next ((s.setLastHop 0x08).finish .unknownMode) := by
  rw [execSetMode, accept_of_ready h, modeByName_eq_none hname]

end

/-- Settles O10: the row a reserved opcode decodes to accepts it under its own HOP. -/
theorem reservedOpcodesIllegal : Obligations.ReservedOpcodesIllegal := by
  intro hop arg s hready hreserved
  rw [decodeHost_hostWord, exec_decodeHop_reserved arg s hreserved]
  exact acceptReserved_of_ready hready

/-- Settles O2: what `Finish` writes, after `last_hop`. -/
theorem connectInSessionRejected : Obligations.ConnectInSessionRejected :=
  fun speed _ hs => execConnect_of_open speed hs

/-- Settles O8: all but DISCONNECT and SET_MODE share the acceptance of a packet command. -/
theorem commandsWithoutSessionRejected : Obligations.CommandsWithoutSessionRejected := by
  intro arg m s hd
  have hpacket (hop : Byte) (pkt : Packet) (k : Kind) :=
    acceptPacket_of_disconnected (hop := hop) (pkt := pkt) (k := k) hd
  exact ⟨execDisconnect_of_disconnected arg hd, hpacket 0x03 packetLockOn .none, hpacket 0x04 packetLockOff .none,
    hpacket 0x05 packetPttOn .none, hpacket 0x06 packetPttOff .none, hpacket 0x07 (packetSetFreq arg) .none,
    execSetMode_nameWord_of_disconnected m hd, hpacket 0x09 packetGetFreqMode .fm,
    hpacket 0x0A packetGetRxStatus .rx, hpacket 0x0B packetGetTxStatus .tx⟩

/-- Settles O9: the lookup of R121 finds no mode. -/
theorem unknownModeRejected : Obligations.UnknownModeRejected :=
  fun _ _ hready hname => execSetMode_of_unknown hready hname

end Sys2Proof.Machine

/-! ## Proofs: reset, the ports and an edge without a command (70_reset_and_hazards.md R260, R261, R267) -/

namespace Sys2Proof.Machine

/-! ### An edge without a command (R267) -/

theorem readyStep_without_command {s : State} {p : PortIn} (h : p.cmdValid = false) : readyStep p s = .next s := by
  simp [readyStep, h]

/-- No status word shows a pulse register (20_memory.md R61). -/
theorem stsRead_pulseDefaults (s : State) (a : BitVec 4) : stsRead s.pulseDefaults a = stsRead s a := rfl

/-- Settles O17: with no word offered a ready state only takes its pulse defaults. -/
theorem readyEdgeHoldsState : Obligations.ReadyEdgeHoldsState := by
  intro s p hclocked hready hnone
  refine ⟨?_, stsRead_pulseDefaults s⟩
  rw [step_of_ready hclocked hready, readyStep_without_command hnone]
  rfl

/-! ### A reset edge (R260) -/

/-- `cmd_ready` is the negation of BUSY (R23), and DISCONNECTED is not BUSY. -/
theorem outputs_cmdReady_of_ready {s : State} (h : ready s.seqState = true) (a : BitVec 4) :
    (outputs s a).cmdReady = true := by
  simp [outputs, busy_of_ready h]

/-- Settles O38: the reset edge, and the only state it can lead to. -/
theorem resetEdgeSetsEveryElement : Obligations.ResetEdgeSetsEveryElement := by
  intro s p hparams hrst
  have hstep : step (s.seeing p) = .next s.resetEdge := step_of_rst hparams hrst
  refine ⟨hstep, fun t a ht => ?_⟩
  obtain rfl : s.resetEdge = t := Host.Outcome.next.inj (hstep.symm.trans ht)
  exact outputs_cmdReady_of_ready rfl a

/-! ### The output ports (R23, R54, R170, R171) -/

theorem busy_iff (q : SeqState) : busy q = true ↔ q = .opening ∨ q = .sending ∨ q = .awaitingReply := by
  cases q <;> simp [busy]

theorem outputs_cmdReady_eq_false (s : State) (a : BitVec 4) :
    (outputs s a).cmdReady = false ↔
      s.seqState = .opening ∨ s.seqState = .sending ∨ s.seqState = .awaitingReply := by
  simp [outputs, busy_iff]

theorem packPacket_fields (p : Packet) :
    (packPacket p).extractLsb' 32 8 = p.b0 ∧ (packPacket p).extractLsb' 24 8 = p.b1 ∧
    (packPacket p).extractLsb' 16 8 = p.b2 ∧ (packPacket p).extractLsb' 8 8 = p.b3 ∧
    (packPacket p).extractLsb' 0 8 = p.b4 := by
  unfold packPacket
  refine ⟨?_, ?_, ?_, ?_, ?_⟩ <;> simp (disch := omega) only [field_above, field_below, field_all, Nat.reduceSub]

theorem packPacket_zero : packPacket Packet.zero = 0 := rfl

/-! ### The status space after reset (R261) -/

/-- The address map of 20_memory.md R61: eleven words, and the addresses above them. -/
theorem address_cases (a : BitVec 4) :
    a = 0 ∨ a = 1 ∨ a = 2 ∨ a = 3 ∨ a = 4 ∨ a = 5 ∨ a = 6 ∨ a = 7 ∨ a = 8 ∨ a = 9 ∨ a = 10 ∨ 11 ≤ a.toNat := by
  revert a
  decide

theorem packPayload_zero : packPayload Packet.zero = 0 := rfl

/-- With an empty record, no packet and no captured byte, the words left to show anything are SEQ and TMO. -/
theorem stsRead_of_emptyRecord {s : State} (hrecord : EmptyRecord s) (htxpkt : s.txpkt = Packet.zero)
    (htxvalid : s.txpktValid = false) (hrxbuf : s.rxbuf = Packet.zero) (hrxcnt : s.rxcnt = 0) {a : BitVec 4}
    (hseq : a ≠ 0) (htmo : a ≠ 9) : stsRead s a = 0 := by
  obtain ⟨hfreq, hmode, hfmraw⟩ := fmWords_absent s hrecord.fmValid
  rcases address_cases a with rfl | rfl | rfl | rfl | rfl | rfl | rfl | rfl | rfl | rfl | rfl | hreserved
  · exact absurd rfl hseq
  · exact hfreq
  · exact hmode
  · exact wordRxst_absent s hrecord.rxValid
  · exact wordTxst_absent s hrecord.txValid
  · rw [stsRead_txpktLo, htxpkt, packPayload_zero]
  · rw [stsRead_txpktHi, wordTxpktHi, htxvalid, htxpkt]
    rfl
  · rw [stsRead_rxbufLo, hrxbuf, packPayload_zero]
  · rw [stsRead_rxbufHi, wordRxbufHi, hrxcnt, hrxbuf]
    rfl
  · exact absurd rfl htmo
  · exact hfmraw
  · exact stsRead_reserved s hreserved

/-- DISCONNECTED with result 15; the parameters are not in SEQ. -/
theorem wordSeq_reset : wordSeq State.reset = 0x00000F00 := by decide

/-- Settles O39: the ports in every state, and the words of the state that holds nothing. -/
theorem statusSpaceAfterReset : Obligations.StatusSpaceAfterReset := by
  refine ⟨fun s a => ?_, fun c => ⟨wordSeq_reset, stsRead_tmo _, fun a hseq htmo => ?_, fun a => ?_⟩⟩
  · obtain ⟨h0, h1, h2, h3, h4⟩ := packPacket_fields s.txpkt
    exact ⟨outputs_cmdReady_eq_false s a, rfl, rfl, rfl, rfl, rfl, rfl, h0, h1, h2, h3, h4, rfl⟩
  · exact stsRead_of_emptyRecord ⟨rfl, rfl, rfl, rfl, rfl, rfl⟩ rfl rfl rfl rfl hseq htmo
  · exact congrArg (PortOut.mk true false 15 false 0 false false · _) packPacket_zero

end Sys2Proof.Machine
